-- ==== Sys2Proof/Word.lean ====
section
/-! DEFINITION. The byte: the one word the highway, the store and the messages are made of
(spec/12_message_and_code_layouts.md, 12.1). -/

namespace Sys2Proof

/-- One byte, bit 0 the least significant. A code byte, a framing byte, a service byte or a byte of a
message body. -/
abbrev Byte := BitVec 8

end Sys2Proof
end

