-- ==== Sys2Proof/Syntax.lean ====
section
/-! DEFINITION. The commands of the inserter: one constructor for each row of spec/opcode_table.json.

A row is either something that arrives from outside (a byte, a lane frame, a frame event, a taken order) or an
event the block itself raises at a frame event or at an arrival (a timer that expires, a phrase that ends). An
event of the second kind stands *due* in the state until its command, or the next command that comes after it in
time, carries it out (assumption 3). Where the spec leaves open which of two acts is taken first, the order is an
operand, so that a statement about the command covers every order. -/

namespace Sys2Proof

/-- One lane frame: framing byte, service byte and the 32 slot bytes (section 1.1). -/
structure LaneFrame where
  framing : Byte
  service : Byte
  slots : List Byte
  deriving DecidableEq, Repr

/-- In which order the units are told of a lane loss. The loss reaches the Sequencer and the Capture Channels each
on its own account, and the LANE notice may stand before or after the notices they cause (section 11.6).
`channelOneFirst` says which of two captures on the lane is aborted first (R138 gives no order; assumption 6). `lanes`
gives the order in which several logical lanes lost by one lowering of the width are passed on, each at its first naming;
a lane it does not name follows in ascending order (R10 gives no order; assumption 13). -/
structure LossOrder where
  capturesFirst : Bool
  noticeFirst : Bool
  channelOneFirst : Bool
  lanes : List Nat
  deriving DecidableEq, Repr

/-- The order taken where the sender does not choose one: programmes, captures with channel 0 first, notice; lanes
ascending (assumption 6). -/
def LossOrder.plain : LossOrder := ⟨false, false, false, []⟩

/-- One act of the work of a frame event, for the schedule of `Instr.frameEvent`. The acts a schedule names are
carried out first and in its order; the rest follow in the standing order of `Machine.runFrame`. -/
inductive Act where
  /-- The restart condition is tested and the qualification count kept (R17). -/
  | qualify
  /-- The Sequencer's work for every context on a slot below `below` that has not had it (R75). -/
  | contexts (below : Nat)
  /-- Head `h` does its frame work: it reads its byte and its gather or linger timer counts (R107, R110). -/
  | headWork (h : Nat)
  /-- The wait timers of the queue count (R110). -/
  | countWaits
  /-- Capture channel `c` does its frame work (R133, R134). -/
  | capture (c : Nat)
  /-- A lane frame `f` arrives on physical lane `p` at the moment of the frame event, and ends the lane in the course of
  it (R6, R7, R74, R75, R138). An arrival that ends no lane comes before or after the whole frame event. -/
  | laneLoss (p : Nat) (f : LaneFrame) (o : LossOrder)
  /-- The parser deals with the service byte (R142). -/
  | parse
  /-- The message completed at this frame event is taken as an order (R149). -/
  | takeOrder (o : LossOrder)
  /-- The Report Sender chooses and offers its byte (R156, R158). -/
  | offerByte
  /-- The part restarts, the count having reached 1600 (R17). -/
  | restart
  /-- A context's timed step ends (R77). -/
  | timedStepEnd (slot : Nat)
  /-- A gather timer expires (R115). -/
  | gatherExpiry (h : Nat)
  /-- A linger timer expires (R120). -/
  | lingerExpiry (h : Nat)
  /-- The wait timer of the waiter on `slot` expires (R123): after every head's work, its endings and the order, whose
  offers it must not forestall. -/
  | waitExpiry (slot : Nat)
  /-- A ONCE head that has read its last byte ends (R117). -/
  | phraseComplete (h : Nat)
  /-- The cyclic subscribers that have counted out leave (R118). -/
  | loopComplete (h : Nat)
  /-- A channel's voice timer has run out (R133). -/
  | voiceExpiry (c : Nat)
  /-- A recording is full (R135). -/
  | captureFull (c : Nat)
  /-- A recording has fallen silent (R135). -/
  | captureSilence (c : Nat)
  deriving DecidableEq, Repr

/-- The commands. `ref` is an order's reference byte and `args` its body after the reference; for a QUERY row,
the body after the subject byte (section 12.2). -/
inductive Instr where
  /-- POWER_ON (R18): the power-on reset pin is released. -/
  | powerOn
  /-- HUNT_BYTE_ARRIVAL (R3): byte `b` arrives on physical lane `p`. -/
  | huntByteArrival (p : Nat) (b : Byte)
  /-- LANE_FRAME_ARRIVAL (R1): the last byte of lane frame `f` arrives on physical lane `p`. `late` says that at
  least 62.5 µs have passed since the last frame event (R11). -/
  | laneFrameArrival (p : Nat) (f : LaneFrame) (late : Bool)
  /-- CHECK_COMPLETE (R5): the eighth correct framing byte of CHECK on physical lane `p`. -/
  | checkComplete (p : Nat)
  /-- LANE_LOSS (R6): the loss count of physical lane `p` has reached 4. -/
  | laneLoss (p : Nat) (o : LossOrder)
  /-- MISMATCH_LANE_LOSS (R7): the mismatch count of physical lane `p` has reached 4. -/
  | mismatchLaneLoss (p : Nat) (o : LossOrder)
  /-- FRAME_EVENT (R11): a frame event, with the order of its acts. -/
  | frameEvent (schedule : List Act)
  /-- TIMED_STEP_END (R77): the frames remaining of the context on `slot` are 0. -/
  | timedStepEnd (slot : Nat)
  /-- GATHER_TIMER_EXPIRY (R115) of head `h`. -/
  | gatherTimerExpiry (h : Nat)
  /-- LINGER_TIMER_EXPIRY (R120) of head `h`. -/
  | lingerTimerExpiry (h : Nat)
  /-- WAIT_TIMER_EXPIRY (R123) of the waiter on `slot`. -/
  | waitTimerExpiry (slot : Nat)
  /-- PHRASE_COMPLETE (R117) of head `h`. -/
  | phraseComplete (h : Nat)
  /-- LOOP_CYCLES_COMPLETE (R118) of the subscribers of head `h` that have counted out. -/
  | loopCyclesComplete (h : Nat)
  /-- VOICE_TIMER_EXPIRY (R133) of capture channel `c`. -/
  | voiceTimerExpiry (c : Nat)
  /-- CAPTURE_FULL (R135) of capture channel `c`. -/
  | captureFull (c : Nat)
  /-- CAPTURE_SILENCE (R135) of capture channel `c`. -/
  | captureSilence (c : Nat)
  /-- RESTART (R17): the restart qualification count has reached 1600. -/
  | restart
  /-- LANE_PLAN (R9). -/
  | lanePlan (ref : Byte) (args : List Byte) (o : LossOrder)
  /-- SET_SLOTS (R47, R48). -/
  | setSlots (ref : Byte) (args : List Byte)
  /-- TONE (R53). -/
  | tone (ref : Byte) (args : List Byte)
  /-- CADENCE (R57). -/
  | cadence (ref : Byte) (args : List Byte)
  /-- TEMPLATE (R67). -/
  | template (ref : Byte) (args : List Byte)
  /-- PLAY (R70 to R73). -/
  | play (ref : Byte) (args : List Byte)
  /-- STOP (R86). -/
  | stop (ref : Byte) (args : List Byte)
  /-- WINDOW_MAP (R93, R94). -/
  | windowMap (ref : Byte) (args : List Byte)
  /-- PHRASE (R97, R98). -/
  | phrase (ref : Byte) (args : List Byte)
  /-- DIRECTORY_CHECK (R100). -/
  | directoryCheck (ref : Byte) (args : List Byte)
  /-- HEAD_PLAN (R109). -/
  | headPlan (ref : Byte) (args : List Byte)
  /-- CAPTURE_START (R131, R132). -/
  | captureStart (ref : Byte) (args : List Byte)
  /-- CAPTURE_STOP (R137). -/
  | captureStop (ref : Byte) (args : List Byte)
  /-- QUERY_SLOT (R50, R90). -/
  | querySlot (ref : Byte) (args : List Byte)
  /-- QUERY_HEAD (R128). -/
  | queryHead (ref : Byte) (args : List Byte)
  /-- QUERY_CAPTURE (R140). -/
  | queryCapture (ref : Byte) (args : List Byte)
  /-- QUERY_TONE (R63). -/
  | queryTone (ref : Byte) (args : List Byte)
  /-- QUERY_PHRASE (R105). -/
  | queryPhrase (ref : Byte) (args : List Byte)
  /-- QUERY_SUMMARY (R152). -/
  | querySummary (ref : Byte) (args : List Byte)
  /-- UNKNOWN_ORDER (R149): a complete message whose order code `code` names no order. -/
  | unknownOrder (code : Byte) (ref : Byte) (args : List Byte)
  /-- REPORT_BEGIN (R156). -/
  | reportBegin
  /-- REPORT_COMPLETE (R158). -/
  | reportComplete
  deriving DecidableEq, Repr

end Sys2Proof
end

