-- ==== Sys2Proof/Decode.lean ====
section
/-! DEFINITION. Words and message bodies to commands.

spec/opcode_table.json gives no bits for any row, so no word spells a command. What the spec does give bits for is
the body of an order message (section 12.2): `decodeBody` reads the command from a body, `encodeBody` writes the body
of an order command from the same layout. -/

namespace Sys2Proof

/-- The command a word spells by the table's bits: none, since no row of the table has bits. -/
def decodeTableWord (_nbits _w : Nat) : Option Instr := none

namespace OrderCode
/-! The order codes of section 12.2. -/
def lanePlan : Byte := 0x01
def setSlots : Byte := 0x02
def tone : Byte := 0x03
def cadence : Byte := 0x04
def template : Byte := 0x05
def play : Byte := 0x10
def stop : Byte := 0x12
def windowMap : Byte := 0x20
def phrase : Byte := 0x21
def directoryCheck : Byte := 0x22
def headPlan : Byte := 0x30
def captureStart : Byte := 0x40
def captureStop : Byte := 0x41
def query : Byte := 0x50
/-- Every code that names an order. -/
def all : List Byte :=
  [lanePlan, setSlots, tone, cadence, template, play, stop, windowMap, phrase, directoryCheck, headPlan,
   captureStart, captureStop, query]
end OrderCode

/-- The row of a QUERY body, by its subject byte (section 12.2): 0 SLOT to 5 SUMMARY. -/
def decodeQuery (ref : Byte) : List Byte → Option Instr
  | [] => none
  | subject :: args =>
    if subject = 0 then some (.querySlot ref args)
    else if subject = 1 then some (.queryHead ref args)
    else if subject = 2 then some (.queryCapture ref args)
    else if subject = 3 then some (.queryTone ref args)
    else if subject = 4 then some (.queryPhrase ref args)
    else if subject = 5 then some (.querySummary ref args)
    else none

/-- The order command of a body: code, reference, the rest (R141, R149). `o` is the loss order a LANE_PLAN is given.
None for a body too short to hold code and reference, and for a QUERY whose subject is missing or unknown. -/
def decodeBody (o : LossOrder) : List Byte → Option Instr
  | code :: ref :: args =>
    if code = OrderCode.lanePlan then some (.lanePlan ref args o)
    else if code = OrderCode.setSlots then some (.setSlots ref args)
    else if code = OrderCode.tone then some (.tone ref args)
    else if code = OrderCode.cadence then some (.cadence ref args)
    else if code = OrderCode.template then some (.template ref args)
    else if code = OrderCode.play then some (.play ref args)
    else if code = OrderCode.stop then some (.stop ref args)
    else if code = OrderCode.windowMap then some (.windowMap ref args)
    else if code = OrderCode.phrase then some (.phrase ref args)
    else if code = OrderCode.directoryCheck then some (.directoryCheck ref args)
    else if code = OrderCode.headPlan then some (.headPlan ref args)
    else if code = OrderCode.captureStart then some (.captureStart ref args)
    else if code = OrderCode.captureStop then some (.captureStop ref args)
    else if code = OrderCode.query then decodeQuery ref args
    else some (.unknownOrder code ref args)
  | _ => none

/-- The body of an order command (section 12.2); none for a command that is no order. -/
def encodeBody : Instr → Option (List Byte)
  | .lanePlan ref args _ => some (OrderCode.lanePlan :: ref :: args)
  | .setSlots ref args => some (OrderCode.setSlots :: ref :: args)
  | .tone ref args => some (OrderCode.tone :: ref :: args)
  | .cadence ref args => some (OrderCode.cadence :: ref :: args)
  | .template ref args => some (OrderCode.template :: ref :: args)
  | .play ref args => some (OrderCode.play :: ref :: args)
  | .stop ref args => some (OrderCode.stop :: ref :: args)
  | .windowMap ref args => some (OrderCode.windowMap :: ref :: args)
  | .phrase ref args => some (OrderCode.phrase :: ref :: args)
  | .directoryCheck ref args => some (OrderCode.directoryCheck :: ref :: args)
  | .headPlan ref args => some (OrderCode.headPlan :: ref :: args)
  | .captureStart ref args => some (OrderCode.captureStart :: ref :: args)
  | .captureStop ref args => some (OrderCode.captureStop :: ref :: args)
  | .querySlot ref args => some (OrderCode.query :: ref :: 0 :: args)
  | .queryHead ref args => some (OrderCode.query :: ref :: 1 :: args)
  | .queryCapture ref args => some (OrderCode.query :: ref :: 2 :: args)
  | .queryTone ref args => some (OrderCode.query :: ref :: 3 :: args)
  | .queryPhrase ref args => some (OrderCode.query :: ref :: 4 :: args)
  | .querySummary ref args => some (OrderCode.query :: ref :: 5 :: args)
  | .unknownOrder code ref args => some (code :: ref :: args)
  | .powerOn | .huntByteArrival _ _ | .laneFrameArrival _ _ _ | .checkComplete _ | .laneLoss _ _
  | .mismatchLaneLoss _ _ | .frameEvent _ | .timedStepEnd _ | .gatherTimerExpiry _ | .lingerTimerExpiry _
  | .waitTimerExpiry _ | .phraseComplete _ | .loopCyclesComplete _ | .voiceTimerExpiry _ | .captureFull _
  | .captureSilence _ | .restart | .reportBegin | .reportComplete => none

end Sys2Proof
end

