-- ==== Sys2Proof/Config.lean ====
section
/-! DEFINITION. What is fixed for the machine and not changed by any command. -/

namespace Sys2Proof.Config

/-- What a store address reads as that nothing of this run has written. R91 leaves the store's contents at
power-on to the memory devices. DESIGN CHOICE (assumption 1, unsafe): the silence code 0x00. -/
def unwrittenByte : Byte := 0x00

/-- A free value: what the two-byte quiet run field of a CAPTURE part carries for a quiet run above 65535, which a
silence hold of 0 allows (R134, R135) and which no rule gives a field for (assumption 31). -/
opaque quietRunField : Nat → BitVec 16

end Sys2Proof.Config
end

