-- ==== Sys2Proof/Machine/State.lean ====
section
/-! DEFINITION. The state of the inserter, unit by unit as the table of spec/00_scope.md lists the units, and its
value right after the reset pin is released. Every field is plain data. -/

namespace Sys2Proof.Machine

/-! ### Lane Receiver and Lane Transmitter (spec/01_the_highway_lanes.md) -/

/-- The alignment state of an inbound physical lane (section 1.2). -/
inductive Align where
  | hunt | check | aligned | spare
  deriving DecidableEq, Repr

/-- The two kinds of lane frame. -/
inductive Kind where
  | a | b
  deriving DecidableEq, Repr

/-- A lane frame as the elastic store holds it, with its suspect mark (R6, R12). -/
structure Held where
  frame : LaneFrame
  suspect : Bool
  deriving DecidableEq, Repr

/-- The record of one inbound physical lane (section 1.2, R12). `search` is the progress of the search in HUNT:
the bytes of the candidate frame received so far, 0 while no candidate is found (R3, R19). `last` is the frame
taken at the previous frame event (R12). `late` is the model's own: whether the arrival that completed CHECK came
at least 62.5 µs after the last frame event (R11). -/
structure Lane where
  align : Align
  search : Nat
  expected : Option Kind
  identity : Option Nat
  checks : Nat
  losses : Nat
  mismatches : Nat
  store : Option Held
  last : Option Held
  slips : Nat
  late : Bool
  deriving DecidableEq, Repr

/-- A physical lane at power-on (R18). -/
def Lane.initial : Lane :=
  { align := .hunt, search := 0, expected := none, identity := none, checks := 0, losses := 0,
    mismatches := 0, store := none, last := none, slips := 0, late := false }

/-- The Lane Receiver. The lane map, the control lane and the outbound mapping are views of `lanes` (R8, R11, R16).
`clockTaken`: the frame clock has taken up the present control lane's timing (R11). `clockDue`: an arrival on the
control lane is a frame event that has not been carried out yet (R11). `restarting`: the count has reached 1600 and the
restart has not been carried out yet (R17, R148; assumption 3). -/
structure LaneReceiver where
  lanes : List Lane
  width : Nat
  restartSet : BitVec 4
  qualCount : Nat
  armed : Bool
  clockTaken : Bool
  clockDue : Bool
  restarting : Bool
  deriving DecidableEq, Repr

/-- The Lane Transmitter: its A/B alternation and, on the four outbound physical lanes, the frames sent at the
latest frame event (R16). -/
structure LaneTransmitter where
  next : Kind
  frames : List LaneFrame
  deriving DecidableEq, Repr

/-! ### Slot action table (spec/03_the_slot_action_table_and_mixer.md) -/

/-- The base actions of a slot entry (section 3.1). -/
inductive BaseAction where
  | through | mute
  deriving DecidableEq, Repr

/-- One slot entry (R35). -/
structure SlotEntry where
  base : BaseAction
  pad : Nat
  deriving DecidableEq, Repr

/-! ### Tone Bank (spec/04_tones_and_cadences.md) -/

/-- One component of a tone entry (R51). -/
structure Oscillator where
  freq : Nat
  amp : Nat
  inc : Nat
  phase : Nat
  deriving DecidableEq, Repr

/-- One tone entry: two components (R51). -/
structure ToneEntry where
  one : Oscillator
  two : Oscillator
  deriving DecidableEq, Repr

/-- The tone entries and the cadence entries. A cadence entry is its list of on and off durations in 10 ms units;
its pair count is the list's length and the empty list is the continuous cadence (R55). -/
structure ToneBank where
  tones : List ToneEntry
  cadences : List (List (Nat × Nat))
  deriving DecidableEq, Repr

/-! ### Programme Sequencer (spec/05_programmes.md) -/

/-- The six kinds of step (R65). -/
inductive Step where
  | tone (tone cadence duration : Nat)
  | silence (duration : Nat)
  | phrase (phrase : Nat)
  | loop (phrase cycles : Nat)
  | digits (base count : Nat)
  | rep (target times : Nat)
  deriving DecidableEq, Repr

/-- A DEFINED template (R64). -/
structure Template where
  tone : Nat
  cadence : Nat
  steps : List Step
  deriving DecidableEq, Repr

/-- The insertion modes of a programme (R36). -/
inductive Insertion where
  | replace | overlay
  deriving DecidableEq, Repr

/-- The step states of a live context (R69). -/
inductive StepState where
  | timed | gatherWait | playing | waiting | pending
  deriving DecidableEq, Repr

/-- The modes of a head and of a request (R106, R68). -/
inductive PlayMode where
  | once | cyclic
  deriving DecidableEq, Repr

/-- The record of a live context (R68), held under its slot. `remaining` is `none` for unlimited. `counters` has one
counter for each REPEAT step of the template, in step order. `digitsLeft` is above 0 exactly while a DIGITS step has
digits to play. The wait entry flag is the view `state = waiting`.

Three marks are the model's own and say how far the frame event in hand has come for this context: `todo`, it was
live when the frame event arrived and has not had its frame work; `news`, the Head Pool has given it news since the
frame event arrived (R108); `hears`, it hears the byte its head reads at this frame event (R107). `finished` marks a
subscriber whose cycles have just been counted to 0 (R118). -/
structure Ctx where
  template : Nat
  mode : Insertion
  step : Nat
  state : StepState
  remaining : Option Nat
  position : Nat
  counters : List Nat
  params : List Nat
  cursor : Nat
  digitsLeft : Nat
  request : Option (Nat × PlayMode)
  head : Option Nat
  mark : Nat
  cycles : Nat
  finished : Bool
  tag : Option Nat
  skipped : Nat
  fellBack : Bool
  todo : Bool
  news : Bool
  hears : Bool
  deriving DecidableEq, Repr

/-- The templates (none: EMPTY) and the contexts, each under the slot it is bound to (none: no programme). The pool
of 96 is the bound on the number of live contexts (R68; assumption 10). -/
structure Sequencer where
  templates : List (Option Template)
  contexts : List (Option Ctx)
  deriving DecidableEq, Repr

/-! ### Store unit (spec/06_the_speech_store_and_phrase_directory.md) -/

/-- Window attributes (section 6.2). -/
inductive WindowAttr where
  | absent | play | playRecord
  deriving DecidableEq, Repr

/-- One store window, base and size in units of 4096 bytes (R92). -/
structure Window where
  attr : WindowAttr
  base : Nat
  size : Nat
  deriving DecidableEq, Repr

/-- The states of a defined directory entry (R95); an ABSENT entry is `none` in the directory. -/
inductive EntryState where
  | unchecked | valid | invalid
  deriving DecidableEq, Repr

/-- A defined directory entry (R95). -/
structure Phrase where
  state : EntryState
  window : Nat
  offset : Nat
  length : Nat
  trim : Nat
  deriving DecidableEq, Repr

/-- The phrase gate (section 6.6). -/
inductive Gate where
  | closedBoth | closedCheck | isOpen
  deriving DecidableEq, Repr

/-- The store unit with the store itself. `store` is in canonical form: addresses strictly rising, no entry equal to
`Config.unwrittenByte`. -/
structure StoreUnit where
  windows : List Window
  mapLoaded : Bool
  directory : List (Option Phrase)
  gate : Gate
  store : List Host.Cell
  deriving DecidableEq, Repr

/-! ### Head Pool (spec/07_playback_heads.md) -/

/-- What a head that is not FREE is doing, with the timer that belongs to it (R106, R110). -/
inductive HeadPhase where
  | gathering (timer : Nat)
  | running
  | linger (timer : Nat)
  deriving DecidableEq, Repr

/-- A head that is not FREE (R106): phrase number, snapshot (start, length, trim) and offset. The subscriber count is
the number of contexts bound to the head. Three marks are the model's own: `arrived`, the offset the head held when the
frame event in hand arrived, if it was RUNNING or LINGER then (R107, R114); `hasRead`, it has read its byte at that
frame event; `counts`, its timer ran when that frame event arrived and has not been counted at it (R110). -/
structure HeadRun where
  phase : HeadPhase
  mode : PlayMode
  phrase : Nat
  start : Nat
  length : Nat
  trim : Nat
  offset : Nat
  arrived : Option Nat
  hasRead : Bool
  counts : Bool
  deriving DecidableEq, Repr

/-- A playback head; `run` is `none` for FREE. `sample` is the phrase sample P of the byte it read at the latest
frame event, if it read one (R107). -/
structure Head where
  run : Option HeadRun
  sample : Option Int
  deriving DecidableEq, Repr

/-- The three kinds of request (section 7.3): of a PHRASE step (ONCE, may gather), of a DIGITS step (ONCE, may not),
of a LOOP step (CYCLIC). -/
inductive ReqKind where
  | gather | digit | loop
  deriving DecidableEq, Repr

/-- An entry of the head wait queue (R121): its context by slot, phrase, kind (which gives mode and whether it may
gather) and wait timer. `counts` is the model's own: the timer ran when the frame event in hand arrived and has not been
counted at it (R110). -/
structure Waiter where
  slot : Nat
  phrase : Nat
  kind : ReqKind
  timer : Nat
  counts : Bool
  deriving DecidableEq, Repr

/-- The Head Pool: heads, wait queue (oldest first), head plan, and whether the SHORTAGE notice last sent was BEGIN
(R125, R128). -/
structure HeadPool where
  heads : List Head
  queue : List Waiter
  gatherWindow : Nat
  lingerTime : Nat
  waitLimit : Nat
  sentBegin : Bool
  deriving DecidableEq, Repr

/-! ### Capture Channels (spec/08_capture_channels.md) -/

/-- The states of an active channel (R129). -/
inductive CapturePhase where
  | waitingVoice (timer : Nat)
  | recording
  deriving DecidableEq, Repr

/-- The record of an active capture channel (R129, R130). `todo` is the model's own: the channel was active when the
frame event in hand arrived and has not had its frame work. -/
structure Capture where
  phase : CapturePhase
  slot : Nat
  phrase : Nat
  window : Nat
  offset : Nat
  start : Nat
  limit : Nat
  threshold : Nat
  voiceWait : Nat
  silenceHold : Nat
  written : Nat
  lastLoud : Option Nat
  quiet : Nat
  suspects : Nat
  todo : Bool
  deriving DecidableEq, Repr

/-! ### Order Receiver (spec/09_the_order_channel.md) -/

/-- The parser with its partial message (section 9.2): length, body bytes so far, running sum modulo 256. -/
inductive Parser where
  | hunt
  | length
  | body (len : Nat) (bytes : List Byte) (sum : Nat)
  | check (len : Nat) (bytes : List Byte) (sum : Nat)
  deriving DecidableEq, Repr

/-- The Order Receiver. `due` is the body of the message completed at the latest frame event while it has not been
taken as an order yet (R149; assumption 3). -/
structure OrderReceiver where
  parser : Parser
  due : Option (List Byte)
  deriving DecidableEq, Repr

/-! ### Report Sender (spec/10_reports.md) -/

/-- The causes of a refusal (section 12.7). -/
inductive Cause where
  | garbled | unknownOrder | badLength | badSlot | laneAbsent | laneDown | busy | idle | noContext | noTemplate
  | tagInUse | badParam | inUse | badTemplate | badWindow | badPhrase | noMap | notRecordable | overlap
  | captureBusy
  deriving DecidableEq, Repr

/-- The causes with which a programme ends (R85). -/
inductive EndCause where
  | completed | stopped | preempted | laneLost
  deriving DecidableEq, Repr

/-- The causes with which a capture ends (R136, R138). -/
inductive CaptureCause where
  | full | silence | stopped | empty | noVoice | laneLost | mapChanged
  deriving DecidableEq, Repr

/-- The new state a LANE notice gives (R15). -/
inductive LaneNews where
  | aligned | spare | lost
  deriving DecidableEq, Repr

/-- The notices (R153, R160). A STATUS notice holds its subject part as the bytes of section 12.6. -/
inductive Notice where
  | restarted (pattern : Bool)
  | lane (logical physical : Nat) (news : LaneNews)
  | shortageBegin
  | shortageEnd
  | refused (cause : Cause) (order : Option (Byte × Byte)) (detail : Nat)
  | status (ref : Byte) (subject : Nat) (number : Nat) (part : List Byte)
  | checked (ref : Byte) (valid invalid lowest : Nat)
  | captureEnd (channel phrase : Nat) (cause : CaptureCause) (length suspects : Nat)
  | ended (slot tag : Nat) (cause : EndCause) (skipped : Nat)
  deriving DecidableEq, Repr

/-- The message in transmission: the whole message, start byte to check byte, and the position of the next byte to
be offered (R153, R158). -/
structure Transmission where
  bytes : List Byte
  position : Nat
  deriving DecidableEq, Repr

/-- The Report Sender. `hold` is set by a restart until the first frame event after it (R159). -/
structure ReportSender where
  urgent : List Notice
  ordinary : List Notice
  drops : Nat
  transmission : Option Transmission
  hold : Bool
  deriving DecidableEq, Repr

/-! ### The whole -/

/-- The state of the inserter, and the queue of commands that wait, first in first out. -/
structure State where
  rx : LaneReceiver
  tx : LaneTransmitter
  slots : List SlotEntry
  bank : ToneBank
  seq : Sequencer
  su : StoreUnit
  pool : HeadPool
  caps : List (Option Capture)
  orders : OrderReceiver
  sender : ReportSender
  pending : List Instr
  deriving DecidableEq, Repr

/-- Why a step faults. -/
inductive Fault where
  /-- The store port was given an address outside 0 to 16,777,215 (R91: the store has no such address). Raised by the
  frame event, by a head's read or a channel's write. Safe: no state that a run reaches presents such an address. -/
  | noStoreAddress (address : Nat)
  deriving DecidableEq, Repr

/-- Why a command is refused. -/
inductive Refusal where
  /-- The command has no meaning in this model. Raised by an arm of the dispatch; safe. -/
  | notModelled (mnemonic : String)
  /-- The term stands for nothing that can arrive: a fifth physical lane, a lane frame without exactly 32 slot bytes,
  or an UNKNOWN_ORDER with the code of an order. Raised by the commands that carry those operands; safe. -/
  | illFormed
  deriving DecidableEq, Repr

/-- A tone component of an entry that was never loaded (R51). -/
def Oscillator.silent : Oscillator := ⟨0, 0, 0, 0⟩

/-- A FREE head. -/
def Head.free : Head := ⟨none, none⟩

/-- The machine right after the reset pin is released: R18 (lanes), R35 (slots), R51 and R55 (tones, cadences),
R89 (templates, contexts), R92, R95, R99 (store unit), R106, R109, R121 (heads), R129 (captures), R142 (parser),
R153 and R159 (reports: the RESTARTED notice with cause POWER_ON is queued at the release). -/
def State.reset : State :=
  { rx := { lanes := List.replicate 4 Lane.initial, width := 4, restartSet := 1#4, qualCount := 0, armed := true,
            clockTaken := false, clockDue := false, restarting := false }
    tx := { next := .a, frames := [] }
    slots := List.replicate 128 ⟨.through, 0⟩
    bank := { tones := List.replicate 32 ⟨.silent, .silent⟩, cadences := List.replicate 16 [] }
    seq := { templates := List.replicate 64 none, contexts := List.replicate 128 none }
    su := { windows := List.replicate 8 ⟨.absent, 0, 0⟩, mapLoaded := false, directory := List.replicate 512 none,
            gate := .closedBoth, store := [] }
    pool := { heads := List.replicate 24 .free, queue := [], gatherWindow := 2, lingerTime := 50, waitLimit := 30,
              sentBegin := false }
    caps := List.replicate 2 none
    orders := { parser := .hunt, due := none }
    sender := { urgent := [.restarted false], ordinary := [], drops := 0, transmission := none, hold := false }
    pending := [] }

end Sys2Proof.Machine
end

