-- ==== Sys2Proof/Machine/Flags.lean ====
section
/-! DEFINITION. Views of the state and the conditions under which an event is due: the lane map and the control
lane, subscribers, playability, regions, and what the latest arrival or frame event has left to be carried out. -/

namespace Sys2Proof.Machine

/-! ### Lanes -/

/-- The record of physical lane `p`. -/
def State.lane (s : State) (p : Nat) : Option Lane := s.rx.lanes[p]?

/-- The lane is ALIGNED and holds identity `l`. -/
def Lane.holds (x : Lane) (l : Nat) : Bool := x.align = .aligned && x.identity = some l

/-- The physical lane that holds logical lane `l`: the lane map (R8). -/
def laneMap (lanes : List Lane) (l : Nat) : Option Nat :=
  (List.range 4).find? fun p => (lanes[p]?).any fun x => x.holds l

/-- The lane map of the state. -/
def State.map (s : State) (l : Nat) : Option Nat := laneMap s.rx.lanes l

/-- Logical lane `l` is in the map. -/
def State.mapped (s : State) (l : Nat) : Bool := (s.map l).isSome

/-- The control lane, by its logical number: the lowest ALIGNED one (R11). -/
def State.control (s : State) : Option Nat := (List.range 4).find? s.mapped

/-- Physical lane `p` carries the control lane. -/
def State.isControl (s : State) (p : Nat) : Bool :=
  match s.control with
  | some l => s.map l == some p
  | none => false

/-- At least one outbound lane is mapped (R16, R156). -/
def State.anyMapped (s : State) : Bool := s.control.isSome

/-- The logical lane of a slot (section 1.1). -/
def laneOfSlot (slot : Nat) : Nat := slot / 32

/-! ### Contexts, templates, heads, channels -/

/-- The live context bound to `slot`. -/
def State.ctx (s : State) (slot : Nat) : Option Ctx := s.seq.contexts.getD slot none

/-- The slots with a live context, ascending. -/
def State.liveSlots (s : State) : List Nat := (List.range 128).filter fun slot => (s.ctx slot).isSome

/-- The template numbered `n`, when DEFINED. -/
def State.template (s : State) (n : Nat) : Option Template := s.seq.templates.getD n none

/-- Cadence entry `c`. -/
def State.cadence (s : State) (c : Nat) : List (Nat × Nat) := s.bank.cadences.getD c []

/-- The step the context's step index names. -/
def State.stepOf (s : State) (c : Ctx) : Option Step :=
  match s.template c.template with
  | some t => t.steps[c.step]?
  | none => none

/-- Head `h`. -/
def State.head (s : State) (h : Nat) : Head := s.pool.heads.getD h .free

/-- What head `h` holds when it is not FREE. -/
def State.headRun (s : State) (h : Nat) : Option HeadRun := (s.head h).run

/-- The slots whose contexts are bound to head `h`. -/
def State.subscribers (s : State) (h : Nat) : List Nat :=
  (List.range 128).filter fun slot => (s.ctx slot).any fun c => c.head == some h

/-- The record of capture channel `c` when active. -/
def State.capture (s : State) (c : Nat) : Option Capture := s.caps.getD c none

/-- The mode of a request kind (section 7.3). -/
def ReqKind.mode : ReqKind → PlayMode
  | .gather | .digit => .once
  | .loop => .cyclic

/-- A template names cadence `c` as its fallback or in a TONE step (R58). -/
def Template.names (t : Template) (c : Nat) : Bool :=
  t.cadence == c || t.steps.any fun
    | .tone _ cadence _ => cadence == c
    | .silence _ | .phrase _ | .loop _ _ | .digits _ _ | .rep _ _ => false

/-- The cadence entry is in use: the template of a live context names it (R58). -/
def State.cadenceInUse (s : State) (c : Nat) : Bool :=
  s.liveSlots.any fun slot => (s.ctx slot).any fun x => (s.template x.template).any fun t => t.names c

/-- The template is bound by a live context (R67). -/
def State.templateInUse (s : State) (n : Nat) : Bool :=
  s.liveSlots.any fun slot => (s.ctx slot).any fun x => x.template == n

/-! ### Effective action (R36) -/

/-- The four actions of a slot, by their codes of section 12.2. -/
def State.effectiveCode (s : State) (slot : Nat) : Nat :=
  match s.ctx slot with
  | some c => (match c.mode with | .replace => 2 | .overlay => 3)
  | none => (match (s.slots.getD slot ⟨.through, 0⟩).base with | .through => 0 | .mute => 1)

/-! ### Regions, playability -/

/-- Two regions, each a start and a length, overlap when an address lies in both (R91). -/
def overlaps (start1 len1 start2 len2 : Nat) : Bool :=
  decide (0 < len1 ∧ 0 < len2 ∧ start1 < start2 + len2 ∧ start2 < start1 + len1)

/-- Window `w` as held. -/
def State.window (s : State) (w : Nat) : Window := s.su.windows.getD w ⟨.absent, 0, 0⟩

/-- The absolute start of an entry's region (R95). -/
def State.startOf (s : State) (e : Phrase) : Nat := (s.window e.window).base * 4096 + e.offset

/-- Directory entry `p`; none when ABSENT. -/
def State.entry (s : State) (p : Nat) : Option Phrase := s.su.directory.getD p none

/-- Validation of an entry's window, offset and length against the map held (R96). -/
def State.fits (s : State) (window offset length : Nat) : Bool :=
  (s.window window).attr != .absent && offset + length ≤ (s.window window).size * 4096

/-- The region overlaps one that an active capture channel holds (R130). -/
def State.heldByCapture (s : State) (start len : Nat) : Bool :=
  (List.range 2).any fun c => (s.capture c).any fun x => overlaps start len x.start x.limit

/-- Phrase `p` is playable (R101). -/
def State.playable (s : State) (p : Nat) : Bool :=
  p ≤ 511 && s.su.gate == .isOpen && (s.entry p).any fun e =>
    e.state == .valid && !(s.heldByCapture (s.startOf e) e.length)

/-! ### What stands due -/

/-- CHECK on lane `p` is complete and has not been decided (R4, R5). -/
def State.checkDue (s : State) (p : Nat) : Bool :=
  (s.lane p).any fun x => x.align == .check && x.checks == 8

/-- The lane's loss count has reached 4 (R6). -/
def State.lossDue (s : State) (p : Nat) : Bool :=
  (s.lane p).any fun x => (x.align == .aligned || x.align == .spare) && x.losses == 4

/-- The lane's mismatch count has reached 4 (R7). -/
def State.mismatchDue (s : State) (p : Nat) : Bool :=
  (s.lane p).any fun x => (x.align == .aligned || x.align == .spare) && x.mismatches == 4

/-- The frames remaining of the timed step on `slot` have reached 0 (R77). -/
def State.timedEndDue (s : State) (slot : Nat) : Bool :=
  (s.ctx slot).any fun c => c.state == .timed && c.remaining == some 0

/-- The gather timer of head `h` has run out (R115). -/
def State.gatherDue (s : State) (h : Nat) : Bool :=
  (s.headRun h).any fun r => r.phase == .gathering 0

/-- The linger timer of head `h` has run out (R120). -/
def State.lingerDue (s : State) (h : Nat) : Bool :=
  (s.headRun h).any fun r => r.phase == .linger 0

/-- The wait timer of the waiter on `slot` has run out (R123). -/
def State.waitDue (s : State) (slot : Nat) : Bool :=
  s.pool.queue.any fun w => w.slot == slot && w.timer == 0

/-- ONCE head `h` has read the last byte of its phrase (R117). -/
def State.phraseDue (s : State) (h : Nat) : Bool :=
  (s.headRun h).any fun r => r.mode == .once && r.phase == .running && r.offset == r.length

/-- The subscribers of head `h` whose cycles have been counted to 0 (R118). -/
def State.finishedOn (s : State) (h : Nat) : List Nat :=
  (s.subscribers h).filter fun slot => (s.ctx slot).any fun c => c.finished

/-- The voice timer of channel `c` has run out (R133). -/
def State.voiceDue (s : State) (c : Nat) : Bool :=
  (s.capture c).any fun x => x.phase == .waitingVoice 0

/-- The recording has fallen silent (R135). -/
def Capture.silent (x : Capture) : Bool := 0 < x.silenceHold && x.quiet == x.silenceHold * 80

/-- The recording on channel `c` has fallen silent (R135). -/
def State.silenceDue (s : State) (c : Nat) : Bool :=
  (s.capture c).any fun x => x.phase == .recording && x.silent

/-- The recording on channel `c` is full and has not fallen silent (R135). -/
def State.fullDue (s : State) (c : Nat) : Bool :=
  (s.capture c).any fun x => x.phase == .recording && x.written == x.limit && !x.silent

/-- The qualification count has reached 1600 and the restart has not been carried out, whatever a LANE PLAN taken in
between has made of the count (R9, R17, R148). -/
def State.restartDue (s : State) : Bool := s.rx.restarting

/-- The check byte of the message in transmission has been offered (R158). -/
def State.reportDue (s : State) : Bool :=
  s.sender.transmission.any fun t => t.position == t.bytes.length

/-- The latest SHORTAGE notice sent or waiting to be sent is BEGIN (R125, R128). -/
def State.shortageMark (s : State) : Bool :=
  if s.sender.urgent.contains .shortageBegin then true
  else if s.sender.urgent.contains .shortageEnd then false
  else s.pool.sentBegin

end Sys2Proof.Machine
end

