-- ==== Sys2Proof/Machine/Operands.lean ====
section
/-! DEFINITION. Every operand form of the orders: the fields of the bodies of section 12.2 to 12.4, each read at its
place, the length each order requires (R149), and the lists an order carries (template steps, windows, phrase
entries). `args` is the body after the reference, so body position j is `args` position j − 2. -/

namespace Sys2Proof.Machine

/-- The one-byte field at position `i`. -/
def field8 (args : List Byte) (i : Nat) : Nat := (args.getD i 0).toNat

/-- The two-byte field at position `i`, least significant byte first (R141). -/
def field16 (args : List Byte) (i : Nat) : Nat := field8 args i + 256 * field8 args (i + 1)

/-- The three-byte field at position `i`, least significant byte first (R141). -/
def field24 (args : List Byte) (i : Nat) : Nat := field16 args i + 65536 * field8 args (i + 2)

/-- `n` as one, two or three bytes, least significant first (section 12.5). -/
def le8 (n : Nat) : List Byte := [BitVec.ofNat 8 n]
@[inherit_doc le8] def le16 (n : Nat) : List Byte := [BitVec.ofNat 8 n, BitVec.ofNat 8 (n / 256)]
@[inherit_doc le8] def le24 (n : Nat) : List Byte :=
  [BitVec.ofNat 8 n, BitVec.ofNat 8 (n / 256), BitVec.ofNat 8 (n / 65536)]

/-- A mark in a dedicated byte (section 12.6). -/
def flagByte (b : Bool) : List Byte := [if b then 1 else 0]

/-- The body length of an order with `args`: code and reference before them. -/
def bodyLength (args : List Byte) : Nat := args.length + 2

/-- The length agrees with a fixed required one (R149). -/
def lengthIs (required : Nat) (args : List Byte) : Bool := bodyLength args == required

/-- The length agrees with `fixed + unit × count`, the count standing at position `at` of `args`. A body too short
to hold the count, and a count whose required length would exceed 72, never agree (R149). -/
def lengthCounts (fixed unit pos : Nat) (args : List Byte) : Bool :=
  pos < args.length && (fixed + unit * field8 args pos ≤ 72 && bodyLength args == fixed + unit * field8 args pos)

/-! ### Template steps (section 12.3, R66) -/

/-- The step of four bytes; none where one of the numbers fails R66. The target test of REPEAT needs the step's own
index and stands in `parseSteps`. -/
def parseStep (kind b1 b2 b3 : Byte) : Option Step :=
  let low := kind.toNat % 16
  let high := kind.toNat / 16
  let number := b1.toNat + 256 * b2.toNat
  let duration := b2.toNat + 256 * b3.toNat
  if low = 1 then
    if b1.toNat ≤ 31 then some (.tone b1.toNat high duration) else none
  else if high ≠ 0 then none
  else if low = 2 then if 1 ≤ duration then some (.silence duration) else none
  else if low = 3 then if number ≤ 511 then some (.phrase number) else none
  else if low = 4 then if number ≤ 511 then some (.loop number b3.toNat) else none
  else if low = 5 then
    if number ≤ 511 ∧ b3.toNat ≤ 12 then some (.digits number b3.toNat) else none
  else if low = 6 then some (.rep b1.toNat b3.toNat)
  else none

/-- A step passes at index `i` when `reps` REPEAT steps stand before it: a REPEAT's target is lower than its own
index and there are at most 4 REPEAT steps (R66). -/
def stepAllowed (i reps : Nat) : Step → Bool
  | .rep target _ => target < i && reps < 4
  | .tone _ _ _ | .silence _ | .phrase _ | .loop _ _ | .digits _ _ => true

/-- Whether the step is a REPEAT step. -/
def Step.isRep : Step → Bool
  | .rep _ _ => true
  | .tone _ _ _ | .silence _ | .phrase _ | .loop _ _ | .digits _ _ => false

/-- The steps in index order, or the index of the first faulty one (R66). -/
def parseSteps : List Byte → (i reps : Nat) → Except Nat (List Step)
  | kind :: b1 :: b2 :: b3 :: rest, i, reps =>
    match parseStep kind b1 b2 b3 with
    | none => .error i
    | some step =>
      if stepAllowed i reps step then
        match parseSteps rest (i + 1) (if step.isRep then reps + 1 else reps) with
        | .ok steps => .ok (step :: steps)
        | .error j => .error j
      else .error i
  | _, _, _ => .ok []

/-- The template a TEMPLATE body carries, or the number its refusal names: 255 for a fault of the step count or the
fallback, else the index of the first faulty step (R66, R67). -/
def parseTemplate (args : List Byte) : Except Nat Template :=
  let tone := field8 args 1
  let cadence := field8 args 2
  let count := field8 args 3
  if count < 1 ∨ 16 < count ∨ 31 < tone ∨ 15 < cadence then .error 255
  else
    match parseSteps (args.drop 4) 0 0 with
    | .ok steps => .ok { tone, cadence, steps }
    | .error i => .error i

/-! ### Cadences (section 12.2) -/

/-- The on and off durations of pairs 1 to `n` of a CADENCE body. -/
def parsePairs (args : List Byte) (n : Nat) : List (Nat × Nat) :=
  (List.range n).map fun k => (field8 args (2 + 2 * k), field8 args (3 + 2 * k))

/-! ### Windows and phrase entries (section 12.4) -/

/-- Window `k` of a WINDOW MAP body as it will be held; none where it is at fault (R92, R93). -/
def parseWindow (args : List Byte) (k : Nat) : Option Window :=
  let attr := field8 args (5 * k)
  let base := field16 args (5 * k + 1)
  let size := field16 args (5 * k + 3)
  if attr = 0 then some ⟨.absent, 0, 0⟩
  else if attr = 1 ∨ attr = 2 then
    if 4095 < base ∨ size = 0 ∨ 4096 < size ∨ 4096 < base + size then none
    else some ⟨if attr = 1 then .play else .playRecord, base, size⟩
  else none

/-- The eight windows of a WINDOW MAP body. -/
def parseWindows (args : List Byte) : List (Option Window) := (List.range 8).map (parseWindow args)

/-- Entry `k` of a PHRASE body: the window byte and the entry its fields describe. -/
structure PhraseArg where
  window : Nat
  offset : Nat
  length : Nat
  trim : Nat
  deriving DecidableEq, Repr

@[inherit_doc PhraseArg] def parsePhraseArg (args : List Byte) (k : Nat) : PhraseArg :=
  { window := field8 args (3 + 8 * k), offset := field24 args (4 + 8 * k), length := field24 args (7 + 8 * k),
    trim := field8 args (10 + 8 * k) }

/-- The entries of a PHRASE body with their phrase numbers. -/
def parsePhraseArgs (args : List Byte) (first count : Nat) : List (Nat × PhraseArg) :=
  (List.range count).map fun k => (first + k, parsePhraseArg args k)

/-! ### Numbers of codes (section 12.7) -/

/-- The code of a refusal cause. -/
def Cause.code : Cause → Nat
  | .garbled => 1 | .unknownOrder => 2 | .badLength => 3 | .badSlot => 4 | .laneAbsent => 5 | .laneDown => 6
  | .busy => 7 | .idle => 8 | .noContext => 9 | .noTemplate => 10 | .tagInUse => 11 | .badParam => 12
  | .inUse => 13 | .badTemplate => 14 | .badWindow => 15 | .badPhrase => 16 | .noMap => 17
  | .notRecordable => 18 | .overlap => 19 | .captureBusy => 20

/-- The code of a programme end cause. -/
def EndCause.code : EndCause → Nat
  | .completed => 0 | .stopped => 1 | .preempted => 2 | .laneLost => 3

/-- The code of a capture end cause. -/
def CaptureCause.code : CaptureCause → Nat
  | .full => 0 | .silence => 1 | .stopped => 2 | .empty => 3 | .noVoice => 4 | .laneLost => 5 | .mapChanged => 6

/-- The code of an alignment state. -/
def Align.code : Align → Nat
  | .hunt => 0 | .check => 1 | .aligned => 2 | .spare => 3

/-- The code a LANE report gives the new state (section 12.5). -/
def LaneNews.code : LaneNews → Nat
  | .aligned => 0 | .spare => 1 | .lost => 2

/-- The code of a step state. -/
def StepState.code : StepState → Nat
  | .timed => 0 | .gatherWait => 1 | .playing => 2 | .waiting => 3 | .pending => 4

/-- The code of a mode. -/
def PlayMode.code : PlayMode → Nat
  | .once => 0 | .cyclic => 1

/-- The code of a head state that is not FREE. -/
def HeadPhase.code : HeadPhase → Nat
  | .gathering _ => 1 | .running => 2 | .linger _ => 3

/-- The code of a directory entry's state; ABSENT is 0. -/
def EntryState.code : EntryState → Nat
  | .unchecked => 1 | .valid => 2 | .invalid => 3

/-- The code of a gate state. -/
def Gate.code : Gate → Nat
  | .closedBoth => 0 | .closedCheck => 1 | .isOpen => 2

/-- The code of an active channel's state; IDLE is 0. -/
def CapturePhase.code : CapturePhase → Nat
  | .waitingVoice _ => 1 | .recording => 2

/-- The codes of the base actions (section 12.2). -/
def BaseAction.code : BaseAction → Nat
  | .through => 0 | .mute => 1

/-- The codes of the insertion modes (section 12.2). -/
def Insertion.code : Insertion → Nat
  | .replace => 2 | .overlay => 3

/-- The base action of a SET SLOTS code (R47). -/
def BaseAction.ofCode (n : Nat) : Option BaseAction :=
  if n = 0 then some .through else if n = 1 then some .mute else none

/-- The insertion mode of a PLAY code (R70). -/
def Insertion.ofCode (n : Nat) : Option Insertion :=
  if n = 2 then some .replace else if n = 3 then some .overlay else none

end Sys2Proof.Machine
end

