-- ==== Sys2Proof/Machine/Samples.lean ====
section
/-! DEFINITION. The arithmetic on samples (spec/02_sample_coding_and_arithmetic.md), used by every unit that makes,
scales or compares a sample. -/

namespace Sys2Proof.Machine

/-- Saturation to the linear range −4095 to +4095 (R20). -/
def saturate (v : Int) : Int := if 4095 < v then 4095 else if v < -4095 then -4095 else v

/-- The rounded quotient x / d for a positive even divisor: floor((x + d/2) / d) (R25). -/
def roundDiv (x d : Int) : Int := Int.fdiv (x + d / 2) d

/-- The magnitude a code byte's segment and step stand for (R22). -/
def magnitudeOf (segment step : Nat) : Nat :=
  if segment = 0 then 2 * step + 1 else (16 + step) * 2 ^ segment + 2 ^ (segment - 1)

/-- Decoding of a code byte to a linear sample (R22; fields as section 12.1 places them). -/
def decodeCode (b : Byte) : Int :=
  let m : Int := magnitudeOf (b.toNat / 16 % 8) (b.toNat % 16)
  if b.toNat < 128 then m else -m

/-- The segment a magnitude of 0 to 4095 encodes to (R23). -/
def segmentOf (m : Nat) : Nat :=
  if m < 32 then 0 else if m < 64 then 1 else if m < 128 then 2 else if m < 256 then 3
  else if m < 512 then 4 else if m < 1024 then 5 else if m < 2048 then 6 else 7

/-- The step of a magnitude within its segment, truncated (R23). -/
def stepOf (m : Nat) : Nat :=
  if m < 32 then m / 2 else (m - 2 ^ (segmentOf m + 4)) / 2 ^ segmentOf m

/-- Encoding of a linear sample to a code byte (R23). -/
def encodeCode (v : Int) : Byte :=
  let m := min v.natAbs 4095
  BitVec.ofNat 8 ((if v < 0 then 128 else 0) + 16 * segmentOf m + stepOf m)

/-- The silence code (R21). -/
def silenceCode : Byte := 0x00

/-- Entries 0 to 63 of the quarter wave. -/
def quarterWave0 : List Int :=
  [
   0, 201, 402, 603, 804, 1005, 1206, 1407, 1608, 1809, 2009, 2210, 2410, 2611, 2811, 3012,
   3212, 3412, 3612, 3811, 4011, 4210, 4410, 4609, 4808, 5007, 5205, 5404, 5602, 5800, 5998, 6195,
   6393, 6590, 6786, 6983, 7179, 7375, 7571, 7767, 7962, 8157, 8351, 8545, 8739, 8933, 9126, 9319,
   9512, 9704, 9896, 10087, 10278, 10469, 10659, 10849, 11039, 11228, 11417, 11605, 11793, 11980, 12167, 12353 ]

/-- Entries 64 to 127 of the quarter wave. -/
def quarterWave1 : List Int :=
  [
   12539, 12725, 12910, 13094, 13279, 13462, 13645, 13828, 14010, 14191, 14372, 14553, 14732, 14912, 15090, 15269,
   15446, 15623, 15800, 15976, 16151, 16325, 16499, 16673, 16846, 17018, 17189, 17360, 17530, 17700, 17869, 18037,
   18204, 18371, 18537, 18703, 18868, 19032, 19195, 19357, 19519, 19680, 19841, 20000, 20159, 20317, 20475, 20631,
   20787, 20942, 21096, 21250, 21403, 21554, 21705, 21856, 22005, 22154, 22301, 22448, 22594, 22739, 22884, 23027 ]

/-- Entries 128 to 191 of the quarter wave. -/
def quarterWave2 : List Int :=
  [
   23170, 23311, 23452, 23592, 23731, 23870, 24007, 24143, 24279, 24413, 24547, 24680, 24811, 24942, 25072, 25201,
   25329, 25456, 25582, 25708, 25832, 25955, 26077, 26198, 26319, 26438, 26556, 26674, 26790, 26905, 27019, 27133,
   27245, 27356, 27466, 27575, 27683, 27790, 27896, 28001, 28105, 28208, 28310, 28411, 28510, 28609, 28706, 28803,
   28898, 28992, 29085, 29177, 29268, 29358, 29447, 29534, 29621, 29706, 29791, 29874, 29956, 30037, 30117, 30195 ]

/-- Entries 192 to 255 of the quarter wave. -/
def quarterWave3 : List Int :=
  [
   30273, 30349, 30424, 30498, 30571, 30643, 30714, 30783, 30852, 30919, 30985, 31050, 31113, 31176, 31237, 31297,
   31356, 31414, 31470, 31526, 31580, 31633, 31685, 31736, 31785, 31833, 31880, 31926, 31971, 32014, 32057, 32098,
   32137, 32176, 32213, 32250, 32285, 32318, 32351, 32382, 32412, 32441, 32469, 32495, 32521, 32545, 32567, 32589,
   32609, 32628, 32646, 32663, 32678, 32692, 32705, 32717, 32728, 32737, 32745, 32752, 32757, 32761, 32765, 32766 ]

/-- Entries 256 to 256 of the quarter wave. -/
def quarterWave4 : List Int :=
  [
   32767 ]

/-- 32767 × sin(2π i / 1024) rounded, for i from 0 to 256 (R26). -/
def quarterWave : List Int := quarterWave0 ++ quarterWave1 ++ quarterWave2 ++ quarterWave3 ++ quarterWave4

/-- The sine table S(i), 0 to 1023, unfolded from its first quarter by the symmetries R26 states and
S(512 − i) = S(i). -/
def sine (i : Nat) : Int :=
  if i ≤ 256 then quarterWave.getD i 0
  else if i ≤ 512 then quarterWave.getD (512 - i) 0
  else if i ≤ 768 then -quarterWave.getD (i - 512) 0
  else -quarterWave.getD (1024 - i) 0

/-- The phase increment of a frequency in tenths of a hertz (R27). -/
def incrementOf (freq : Nat) : Nat := (roundDiv (freq * 8192) 10000).toNat

/-- A component as a TONE order loads it: values clamped, increment computed, phase 0 (R27, R53). -/
def Oscillator.load (freq amp : Nat) : Oscillator :=
  { freq := min freq 40000, amp := min amp 4095, inc := incrementOf (min freq 40000), phase := 0 }

/-- The component value of this frame event (R28). -/
def Oscillator.value (o : Oscillator) : Int := roundDiv (sine (o.phase / 64) * o.amp) 32768

/-- The phase advance of a frame event (R28). -/
def Oscillator.advance (o : Oscillator) : Oscillator := { o with phase := (o.phase + o.inc) % 65536 }

/-- The entry sample T (R29). -/
def ToneEntry.sample (e : ToneEntry) : Int := saturate (e.one.value + e.two.value)

/-- Both phases advance (R28, R52). -/
def ToneEntry.advance (e : ToneEntry) : ToneEntry := ⟨e.one.advance, e.two.advance⟩

/-- Both phases at 0, as a restart leaves them (R62). -/
def ToneEntry.rewind (e : ToneEntry) : ToneEntry := ⟨{ e.one with phase := 0 }, { e.two with phase := 0 }⟩

/-- The phrase sample P of byte `b` at trim `t` (R30). -/
def phraseSample (b : Byte) (t : Nat) : Int := saturate (roundDiv (decodeCode b * t) 128)

/-- The padded inbound sample (R31). -/
def paddedSample (b : Byte) (pad : Nat) : Int := roundDiv (decodeCode b * (8 - pad : Int)) 8

/-- The outbound byte of OVERLAY (R32, R42). -/
def overlayByte (b : Byte) (pad : Nat) (y : Int) : Byte := encodeCode (saturate (paddedSample b pad + y))

/-- The decoded sample of `b` reaches the threshold (R34). -/
def reaches (b : Byte) (threshold : Nat) : Bool := threshold ≤ (decodeCode b).natAbs

/-- The period of a cadence entry in frames; 0 for the continuous cadence, which has none (R55). -/
def cadencePeriod : List (Nat × Nat) → Nat
  | [] => 0
  | (on, off) :: rest => 80 * on + 80 * off + cadencePeriod rest

/-- The gate over the pairs laid out from position 0 (R56). -/
def gateIn : List (Nat × Nat) → Nat → Bool
  | [], _ => false
  | (on, off) :: rest, n =>
    if n < 80 * on then true
    else if n < 80 * on + 80 * off then false
    else gateIn rest (n - (80 * on + 80 * off))

/-- The cadence's gate at a position: always on under a continuous cadence (R56). -/
def gateOn (pairs : List (Nat × Nat)) (position : Nat) : Bool :=
  match pairs with
  | [] => true
  | _ => gateIn pairs position

/-- The position after a frame event of output: wraps at the period, held at 0 under a continuous cadence (R59,
R60). -/
def advancePosition (pairs : List (Nat × Nat)) (position : Nat) : Nat :=
  match pairs with
  | [] => 0
  | _ => if cadencePeriod pairs ≤ position + 1 then 0 else position + 1

end Sys2Proof.Machine
end

