-- ==== Sys2Proof/Machine/Ops.lean ====
section
/-! DEFINITION. The operations every unit uses: writing a table entry, reading and writing the store, and queueing
notices. -/

namespace Sys2Proof.Machine

/-! ### The store (R91) -/

/-- The byte at an address: the one listed, else what an unwritten address holds. -/
def storeRead : List Host.Cell → Nat → Byte
  | [], _ => Config.unwrittenByte
  | (b, v) :: rest, a => if a = b then v else storeRead rest a

/-- Write one byte, keeping the canonical form: addresses strictly rising, no entry equal to an unwritten byte. -/
def storeWrite : List Host.Cell → Nat → Byte → List Host.Cell
  | [], a, v => if v = Config.unwrittenByte then [] else [(a, v)]
  | (b, u) :: rest, a, v =>
    if a < b then (if v = Config.unwrittenByte then (b, u) :: rest else (a, v) :: (b, u) :: rest)
    else if a = b then (if v = Config.unwrittenByte then rest else (a, v) :: rest)
    else (b, u) :: storeWrite rest a v

/-- The canonical form above a bound: every address is at least `low` and in the store, addresses strictly rise, and
no entry equals an unwritten byte. -/
def storeWfFrom : Nat → List Host.Cell → Bool
  | _, [] => true
  | low, (a, v) :: rest => low ≤ a && a < 16777216 && v != Config.unwrittenByte && storeWfFrom (a + 1) rest

/-- The canonical form of the store. -/
abbrev Memory.wf (cells : List Host.Cell) : Bool := storeWfFrom 0 cells

/-- The number of bytes of the store (R91). -/
def storeSize : Nat := 16777216

/-! ### Table writes -/

/-- The state with the receiver's lane records replaced. -/
def State.setLanes (s : State) (lanes : List Lane) : State := { s with rx := { s.rx with lanes } }

/-- Lane `p` changed by `f`. -/
def State.modifyLane (s : State) (p : Nat) (f : Lane → Lane) : State := s.setLanes (s.rx.lanes.modify p f)

/-- The contexts replaced. -/
def State.setContexts (s : State) (contexts : List (Option Ctx)) : State := { s with seq := { s.seq with contexts } }

/-- The context of `slot` replaced; none frees it. -/
def State.setCtx (s : State) (slot : Nat) (c : Option Ctx) : State := s.setContexts (s.seq.contexts.set slot c)

/-- The live context of `slot` changed by `f`. -/
def State.modifyCtx (s : State) (slot : Nat) (f : Ctx → Ctx) : State :=
  s.setContexts (s.seq.contexts.modify slot (Option.map f))

/-- Several contexts changed by `f`. -/
def State.modifyCtxs (s : State) (slots : List Nat) (f : Ctx → Ctx) : State :=
  slots.foldl (fun s slot => s.modifyCtx slot f) s

/-- The heads replaced. -/
def State.setHeads (s : State) (heads : List Head) : State := { s with pool := { s.pool with heads } }

/-- What head `h` holds replaced; its phrase sample of this frame event stays. -/
def State.setHeadRun (s : State) (h : Nat) (r : Option HeadRun) : State :=
  s.setHeads (s.pool.heads.modify h fun x => { x with run := r })

/-- Capture channel `c` replaced. -/
def State.setCapture (s : State) (c : Nat) (x : Option Capture) : State := { s with caps := s.caps.set c x }

/-- The urgent queue replaced. -/
def State.setUrgent (s : State) (urgent : List Notice) : State := { s with sender := { s.sender with urgent } }

/-! ### Notices (R153 to R155) -/

/-- A notice reaches the ordinary queue: placed at the end, or dropped where 64 stand there (R155). -/
def State.queueOrdinary (s : State) (n : Notice) : State :=
  if s.sender.ordinary.length < 64 then
    { s with sender := { s.sender with ordinary := s.sender.ordinary ++ [n] } }
  else { s with sender := { s.sender with drops := min 255 (s.sender.drops + 1) } }

/-- Several notices, in order. -/
def State.queueAll (s : State) (ns : List Notice) : State := ns.foldl State.queueOrdinary s

/-- A LANE notice in its place: in that of an unsent one for the same physical lane, else at the end (R154). -/
def placeLane (urgent : List Notice) (logical physical : Nat) (news : LaneNews) : List Notice :=
  match urgent with
  | [] => [.lane logical physical news]
  | .lane l q m :: rest =>
    if q = physical then .lane logical physical news :: rest
    else .lane l q m :: placeLane rest logical physical news
  | n :: rest => n :: placeLane rest logical physical news

/-- A LANE notice is queued (R15, R154). -/
def State.queueLane (s : State) (logical physical : Nat) (news : LaneNews) : State :=
  s.setUrgent (placeLane s.sender.urgent logical physical news)

/-- The wait queue has become non-empty (`begins`) or empty: the SHORTAGE notice is queued, or cancels the unsent
opposite one (R125). -/
def State.noteShortage (s : State) (begins : Bool) : State :=
  let opposite : Notice := if begins then .shortageEnd else .shortageBegin
  let notice : Notice := if begins then .shortageBegin else .shortageEnd
  if s.sender.urgent.contains opposite then s.setUrgent (s.sender.urgent.filter (· != opposite))
  else s.setUrgent (s.sender.urgent ++ [notice])

/-- A refused order (R151): its cause, code, reference and detail. -/
def State.refuse (s : State) (cause : Cause) (code ref : Byte) (detail : Nat := 0) : State :=
  s.queueOrdinary (.refused cause (some (code, ref)) detail)

/-- A garbled message (R151): 0 length out of range, 1 check failed, 2 suspect byte (section 12.5). -/
def State.refuseGarbled (s : State) (reason : Nat) : State := s.queueOrdinary (.refused .garbled none reason)

/-! ### The wait queue -/

/-- The wait queue becomes `q`, with the SHORTAGE notice its change brings about (R125). -/
def State.setQueue (s : State) (q : List Waiter) : State :=
  let t : State := { s with pool := { s.pool with queue := q } }
  match s.pool.queue, q with
  | [], _ :: _ => t.noteShortage true
  | _ :: _, [] => t.noteShortage false
  | [], [] => t
  | _ :: _, _ :: _ => t

end Sys2Proof.Machine
end

