-- ==== Sys2Proof/Machine/Heads.lean ====
section
/-! DEFINITION. The Head Pool (spec/07_playback_heads.md): starting and joining heads, the wait queue, offers, leaving
and lingering, and what the Head Pool's events do to the contexts (R108). -/

namespace Sys2Proof.Machine

/-! ### What news does to a context's record -/

/-- The skipped count raised by one, staying at 255 (R84). -/
def Ctx.skip (c : Ctx) : Ctx := { c with skipped := min 255 (c.skipped + 1) }

/-- The context gives up binding and request (R78, R84). -/
def Ctx.unbind (c : Ctx) : Ctx :=
  { c with head := none, request := none, position := 0, mark := 0, cycles := 0, finished := false, hears := false }

/-- The next digit of a DIGITS step: cursor on by one, digits left down by one, and past the step with the last
(R81). -/
def Ctx.nextDigit (c : Ctx) : Ctx :=
  { c with cursor := c.cursor + 1, digitsLeft := c.digitsLeft - 1
           step := if c.digitsLeft ≤ 1 then c.step + 1 else c.step }

/-- The step index moves to the following step (R76). -/
def Ctx.nextStep (c : Ctx) : Ctx := { c with step := c.step + 1 }

/-- Past a request that is over: the next digit in a DIGITS step, else the following step (R78, R79, R81). -/
def Ctx.pass (c : Ctx) : Ctx := if 0 < c.digitsLeft then c.unbind.nextDigit else c.unbind.nextStep

/-- The news that the request is complete: PENDING, to go on at the next frame event (R78, R108). -/
def Ctx.complete (c : Ctx) : Ctx := { c.pass with state := .pending, news := true }

/-- The news that the request is abandoned (R84, R108). -/
def Ctx.abandon (c : Ctx) : Ctx := { c.pass.skip with state := .pending, news := true }

/-- The news that the gathering head has begun to read (R115). -/
def Ctx.startPlaying (c : Ctx) : Ctx := { c with state := .playing, hears := false, news := true }

/-- Bound to head `h`: GATHER-WAIT on a gathering head, else PLAYING with its join mark (R111 to R114). -/
def Ctx.bind (c : Ctx) (h : Nat) (r : HeadRun) (mark : Nat) (hears : Bool) : Ctx :=
  { c with
    head := some h
    state := match r.phase with | .gathering _ => .gatherWait | .running | .linger _ => .playing
    position := 0, mark, hears, finished := false }

/-- The count of a subscriber at an advance to `offset`: one cycle fewer where it heard the byte, its mark is reached
and cycles remain; finished when none is left (R118). -/
def Ctx.countAt (c : Ctx) (offset : Nat) : Ctx :=
  if c.hears && (c.mark == offset && c.cycles != 0) then { c with cycles := c.cycles - 1, finished := c.cycles == 1 }
  else c

/-! ### Starting a head -/

/-- What a head holds when started for entry `e` of phrase `p` (R102, R112). -/
def State.startedRun (s : State) (kind : ReqKind) (p : Nat) (e : Phrase) : HeadRun :=
  { phase := match kind with
      | .gather => if s.pool.gatherWindow = 0 then .running else .gathering (s.pool.gatherWindow * 80)
      | .digit | .loop => .running
    mode := kind.mode, phrase := p, start := s.startOf e, length := e.length, trim := e.trim, offset := 0
    arrived := none, hasRead := false, counts := false }

/-- Head `h`, FREE or taken over, is started for phrase `p` (R112). -/
def State.startHead (s : State) (h : Nat) (kind : ReqKind) (p : Nat) : State :=
  match s.entry p with
  | some e => s.setHeadRun h (some (s.startedRun kind p e))
  | none => s

/-- The lowest-numbered head that satisfies `f`. -/
def State.findHead (s : State) (f : HeadRun → Bool) : Option Nat :=
  (List.range 24).find? fun h => (s.headRun h).any f

/-- The lowest-numbered FREE head (R111). -/
def State.freeHead (s : State) : Option Nat := (List.range 24).find? fun h => (s.headRun h).isNone

/-- The linger time left of head `h`, when it is in LINGER. -/
def State.lingerLeft (s : State) (h : Nat) : Option Nat :=
  match s.headRun h with
  | some r => (match r.phase with | .linger t => some t | .gathering _ | .running => none)
  | none => none

/-- The better of two LINGER heads: the one with less time left, the earlier found on a tie (R111). -/
def lessLinger (best : Option (Nat × Nat)) (h : Nat) (left : Option Nat) : Option (Nat × Nat) :=
  match left, best with
  | none, _ => best
  | some t, none => some (h, t)
  | some t, some (k, u) => if t < u then some (h, t) else some (k, u)

/-- The LINGER head with the least time left, the lowest-numbered of several (R111). -/
def State.lingerHead (s : State) : Option Nat :=
  ((List.range 24).foldl (fun best h => lessLinger best h (s.lingerLeft h)) none).map Prod.fst

/-- The head a request may start: a FREE one, else a LINGER one to take over (R111, R113). -/
def State.spareHead (s : State) : Option Nat :=
  match s.freeHead with
  | some h => some h
  | none => s.lingerHead

/-- The offset after a cyclic head's next byte (R118). -/
def HeadRun.wrapped (r : HeadRun) : Nat := if r.offset + 1 < r.length then r.offset + 1 else 0

/-- The join mark of a subscription to a cyclic head, and whether the context hears the byte of the frame event in
hand. In the context's own going on: the offset the head held when the frame event arrived, when it was reading then.
Otherwise the offset of the byte it reads at the next frame event (R114). -/
def joinMark (own : Bool) (r : HeadRun) : Nat × Bool :=
  match own, r.arrived with
  | true, some o => (o, true)
  | _, some _ => (if r.hasRead then r.offset else r.wrapped, false)
  | _, none => (r.offset, false)

/-- The context of `slot` subscribes to head `h`, on its own request. Where the head has already read at this frame
event, the advance it made counts for a mark it reached (R114, R118). -/
def State.subscribe (s : State) (own : Bool) (slot h : Nat) : State :=
  match s.headRun h with
  | none => s
  | some r =>
    let m := joinMark own r
    s.modifyCtx slot fun c =>
      let c := c.bind h r m.1 m.2
      if r.hasRead then c.countAt r.offset else c

/-- The context of `slot` enters the wait queue at its end (R83, R121). -/
def State.enqueue (s : State) (slot p : Nat) (kind : ReqKind) : State :=
  (s.modifyCtx slot fun c =>
    { c with state := .waiting, head := none, position := 0, fellBack := true }).setQueue
    (s.pool.queue ++ [{ slot, phrase := p, kind, timer := s.pool.waitLimit * 800, counts := false }])

/-- The head a request joins as it stands: a head gathering for `p` for a PHRASE request; a cyclic head that holds
`p`, RUNNING or LINGER, for a LOOP request; none for a DIGITS request (R111, R113). -/
def State.joinable (s : State) (p : Nat) : ReqKind → Option Nat
  | .gather => s.findHead fun r =>
      r.phrase == p && match r.phase with | .gathering _ => true | .running | .linger _ => false
  | .digit => none
  | .loop => s.findHead fun r =>
      r.phrase == p && (r.mode == .cyclic && match r.phase with | .gathering _ => false | .running | .linger _ => true)

/-- A LINGER head that is joined becomes RUNNING where it stands (R113). -/
def State.revive (s : State) (h : Nat) : State :=
  match s.headRun h with
  | some r =>
    (match r.phase with
     | .linger _ => s.setHeadRun h (some { r with phase := .running })
     | .gathering _ | .running => s)
  | none => s

/-- A request of the context of `slot` (R111, R113); none where it is abandoned as it is made. `own`: it is made in the
context's own going on at a frame event. -/
def State.request (s : State) (own : Bool) (slot p : Nat) (kind : ReqKind) : Option State :=
  if s.playable p then
    let s := s.modifyCtx slot fun c => { c with request := some (p, kind.mode) }
    match s.joinable p kind with
    | some h => some ((s.revive h).subscribe own slot h)
    | none =>
      match s.spareHead with
      | some h => some ((s.startHead h kind p).subscribe own slot h)
      | none => some (s.enqueue slot p kind)
  else none

/-! ### Offers (R122) -/

/-- The waiter `v` goes with the grantee `w`: same phrase, same kind, and neither asks for a digit (R122). -/
def Waiter.collapsesWith (v w : Waiter) : Bool := v.phrase == w.phrase && (v.kind == w.kind && v.kind != .digit)

/-- A waiter is granted head `h` or collapses onto it: bound, with the news (R122). -/
def State.grantTo (s : State) (h slot : Nat) : State :=
  match s.headRun h with
  | some r => s.modifyCtx slot fun c => { c.bind h r 0 false with news := true }
  | none => s

/-- Head `h`, FREE or LINGER, is offered to the queue (R122). -/
def State.offer (s : State) (h : Nat) : State :=
  let bad := s.pool.queue.takeWhile fun w => !s.playable w.phrase
  let rest := s.pool.queue.dropWhile fun w => !s.playable w.phrase
  let t := s.modifyCtxs (bad.map Waiter.slot) Ctx.abandon
  match rest with
  | [] => t.setQueue []
  | w :: ws =>
    let joined := w :: ws.filter fun v => v.collapsesWith w
    ((joined.map Waiter.slot).foldl (fun t slot => t.grantTo h slot) (t.startHead h w.kind w.phrase)).setQueue
      (ws.filter fun v => !v.collapsesWith w)

/-! ### Leaving (R119) -/

/-- The next state of a head whose count has reached 0 (R119). -/
def State.restedRun (s : State) (r : HeadRun) : Option HeadRun :=
  match r.mode, r.phase with
  | .cyclic, .running =>
    if s.pool.lingerTime = 0 then none
    else some { r with phase := .linger (s.pool.lingerTime * 800), counts := false }
  | .cyclic, .linger t => some { r with phase := .linger t }
  | .cyclic, .gathering _ => none
  | .once, _ => none

/-- Head `h` is left without a subscriber. -/
def State.emptied (s : State) (h : Nat) : Bool := (s.headRun h).isSome && (s.subscribers h).isEmpty

/-- Head `h` takes its next state where its count has reached 0 (R119). -/
def State.restHead (s : State) (h : Nat) : State :=
  match s.headRun h with
  | some r => if s.emptied h then s.setHeadRun h (s.restedRun r) else s
  | none => s

/-- The heads `left` in one act: each takes its next state from its final count, and then those that became FREE or
entered LINGER are offered to the queue in ascending order, each as the earlier offers left it (R119). -/
def State.settleHeads (s : State) (left : List Nat) : State :=
  let hs := (List.range 24).filter fun h => left.contains h && s.emptied h
  hs.foldl (fun t h => if t.pool.queue.isEmpty then t else t.offer h) (hs.foldl State.restHead s)

/-- The heads the contexts of `slots` are bound to. -/
def State.headsOf (s : State) (slots : List Nat) : List Nat := slots.filterMap fun slot => (s.ctx slot).bind Ctx.head

/-- The contexts of `slots` leave the Head Pool as one, and become FREE; only then are the heads they gave up offered
(R85, R88, R119, R124). -/
def State.leavePool (s : State) (slots : List Nat) : State :=
  let left := s.headsOf slots
  let t := slots.foldl (fun t slot => t.setCtx slot none) s
  (t.setQueue (t.pool.queue.filter fun w => !slots.contains w.slot)).settleHeads left

/-! ### The Head Pool's events -/

/-- The gather timer of head `h` expires: RUNNING at offset 0, its subscribers PLAYING (R115). -/
def State.expireGather (s : State) (h : Nat) : State :=
  match s.headRun h with
  | some r =>
    (s.setHeadRun h (some { r with phase := .running, offset := 0 })).modifyCtxs (s.subscribers h) Ctx.startPlaying
  | none => s

/-- The linger timer of head `h` expires: FREE (R120). -/
def State.expireLinger (s : State) (h : Nat) : State := s.setHeadRun h none

/-- The subscribers `slots` of head `h` have their request complete and leave it together (R117, R118, R119). -/
def State.completeOn (s : State) (h : Nat) (slots : List Nat) : State :=
  (s.modifyCtxs slots Ctx.complete).settleHeads [h]

/-- The wait limit of the waiter on `slot` has run out: it leaves the queue, its request abandoned (R123). -/
def State.expireWait (s : State) (slot : Nat) : State :=
  (s.modifyCtx slot Ctx.abandon).setQueue (s.pool.queue.filter fun w => w.slot != slot)

/-- A change of map: every waiter is abandoned in queue order, then every head is stopped, its subscribers
abandoned (R126). -/
def State.stopPool (s : State) : State :=
  let t := (s.modifyCtxs (s.pool.queue.map Waiter.slot) Ctx.abandon).setQueue []
  let bound := (List.range 24).flatMap t.subscribers
  (t.modifyCtxs bound Ctx.abandon).setHeads (t.pool.heads.map fun x => { x with run := none })

/-- Head `h` reads at the frame event in hand: it was RUNNING or LINGER when it arrived, has not been freed, stopped
or started since, and has not read yet (R107). -/
def HeadRun.reads (r : HeadRun) : Bool := r.arrived.isSome && !r.hasRead

/-- The advance after a byte: a cyclic head wraps; a ONCE head reaches its length with the last byte (R117, R118). -/
def HeadRun.advance (r : HeadRun) : HeadRun :=
  { r with hasRead := true, offset := match r.mode with | .cyclic => r.wrapped | .once => r.offset + 1 }

/-- Head `h` reads its byte, hands on P, advances and counts its subscribers' cycles (R107, R117, R118, R120). -/
def State.readHead (s : State) (h : Nat) (r : HeadRun) : State :=
  let p := phraseSample (storeRead s.su.store (r.start + r.offset)) r.trim
  let s := s.setHeads (s.pool.heads.modify h fun x => { x with run := some r.advance, sample := some p })
  match r.mode with
  | .cyclic => s.modifyCtxs (s.subscribers h) fun c => c.countAt r.wrapped
  | .once => s

/-- A timer that ran when the frame event in hand arrived has counted down by one at it (R110). -/
def HeadRun.counted (r : HeadRun) : HeadRun :=
  { r with
    counts := false
    phase := match r.phase with
      | .gathering t => .gathering (t - 1)
      | .running => .running
      | .linger t => .linger (t - 1) }

/-- The gather or linger timer of head `h` counts, if it is to count at this frame event and has not (R110). -/
def State.countHead (s : State) (h : Nat) : State :=
  match s.headRun h with
  | some r => if r.counts then s.setHeadRun h (some r.counted) else s
  | none => s

/-- A wait timer that is to count at this frame event counts (R110). -/
def Waiter.counted (w : Waiter) : Waiter := if w.counts then { w with timer := w.timer - 1, counts := false } else w

/-- The wait timers that are to count at this frame event and have not count (R110). -/
def State.countWaits (s : State) : State :=
  { s with pool := { s.pool with queue := s.pool.queue.map Waiter.counted } }

end Sys2Proof.Machine
end

