-- ==== Sys2Proof/Machine/Captures.lean ====
section
/-! DEFINITION. The Capture Channels (spec/08_capture_channels.md): frame work, endings, aborts. -/

namespace Sys2Proof.Machine

/-- The store unit writes the target phrase's entry VALID with trim 128 (R103). -/
def State.writeCaptured (s : State) (x : Capture) (length : Nat) : State :=
  { s with su := { s.su with directory := s.su.directory.set x.phrase (some
      { state := .valid, window := x.window, offset := x.offset, length, trim := 128 }) } }

/-- The CAPTURE END notice of channel `c` (R136, R138). -/
def captureNotice (c : Nat) (x : Capture) (cause : CaptureCause) (length : Nat) : Notice :=
  .captureEnd c x.phrase cause length x.suspects

/-- Channel `c` ends with `cause`, one of FULL, SILENCE and STOPPED, and recorded length `length`; with nothing
recorded the cause becomes EMPTY and the entry is left (R136). -/
def State.endRecording (s : State) (c : Nat) (x : Capture) (cause : CaptureCause) (length : Nat) : State :=
  if length = 0 then (s.setCapture c none).queueOrdinary (captureNotice c x .empty 0)
  else ((s.writeCaptured x length).setCapture c none).queueOrdinary (captureNotice c x cause length)

/-- Channel `c` ends with NO_VOICE (R133, R136). -/
def State.endNoVoice (s : State) (c : Nat) (x : Capture) : State :=
  (s.setCapture c none).queueOrdinary (captureNotice c x .noVoice 0)

/-- The recorded length of a silence ending: up to the last loud byte (R135). -/
def Capture.trimmed (x : Capture) : Nat :=
  match x.lastLoud with
  | some q => q + 1
  | none => 0

/-- Channel `c`, when active, is aborted (R138). -/
def State.abortCapture (s : State) (cause : CaptureCause) (c : Nat) : State :=
  match s.capture c with
  | some x => (s.setCapture c none).queueOrdinary (captureNotice c x cause x.written)
  | none => s

/-- The order in which the channels on one lost lane are aborted: R138 gives none, and the loss order chooses
(assumption 6). -/
def channelOrder (o : LossOrder) : List Nat := if o.channelOneFirst then [1, 0] else [0, 1]

/-- The channels whose source slot lies on logical lane `l` are aborted (R14, R138), with their CAPTURE END notices in
the order of the loss order. -/
def State.abortOnLane (s : State) (o : LossOrder) (l : Nat) : State :=
  ((channelOrder o).filter fun c => (s.capture c).any fun x => laneOfSlot x.slot == l).foldl
    (fun s c => s.abortCapture .laneLost c) s

/-- Both channels are aborted by a change of map, channel 0 first (R94). -/
def State.abortAll (s : State) : State := [0, 1].foldl (fun s c => s.abortCapture .mapChanged c) s

/-- The byte a recording channel writes: as it arrived, or the silence code for a suspect frame (R134). -/
def capturedByte (b : Byte) (suspect : Bool) : Byte := if suspect then silenceCode else b

/-- The sample is loud: not suspect, and it reaches the threshold (R133, R134). -/
def Capture.loud (x : Capture) (b : Byte) (suspect : Bool) : Bool := !suspect && reaches b x.threshold

/-- The record after the byte at position `written` has been written and classified (R134). -/
def Capture.classify (x : Capture) (b : Byte) (suspect : Bool) : Capture :=
  { x with
    phase := .recording
    written := x.written + 1
    lastLoud := if x.loud b suspect then some x.written else x.lastLoud
    quiet := if x.loud b suspect then 0 else x.quiet + 1
    suspects := if suspect then x.suspects + 1 else x.suspects }

/-- Channel `c` writes its byte and classifies it (R134). -/
def State.writeByte (s : State) (c : Nat) (x : Capture) (b : Byte) (suspect : Bool) : State :=
  { s with su := { s.su with store := storeWrite s.su.store (x.start + x.written) (capturedByte b suspect) } }.setCapture
    c (some (x.classify b suspect))

/-- The frame work of channel `c` on the inbound byte of its source slot (R133, R134). -/
def State.workCapture (s : State) (c : Nat) (x : Capture) (b : Byte) (suspect : Bool) : State :=
  match x.phase with
  | .recording => s.writeByte c x b suspect
  | .waitingVoice timer =>
    if x.loud b suspect then s.writeByte c x b suspect
    else s.setCapture c (some { x with phase := .waitingVoice (timer - 1) })

/-- The frame work of channel `c` on this byte would write the store. -/
def Capture.writes (x : Capture) (b : Byte) (suspect : Bool) : Bool :=
  match x.phase with
  | .recording => true
  | .waitingVoice _ => x.loud b suspect

/-- The voice timer of channel `c` has run out: NO_VOICE (R133). -/
def State.expireVoice (s : State) (c : Nat) : State :=
  match s.capture c with
  | some x => s.endNoVoice c x
  | none => s

/-- The recording on channel `c` is full (R135). -/
def State.endFull (s : State) (c : Nat) : State :=
  match s.capture c with
  | some x => s.endRecording c x .full x.written
  | none => s

/-- The recording on channel `c` has fallen silent (R135). -/
def State.endSilence (s : State) (c : Nat) : State :=
  match s.capture c with
  | some x => s.endRecording c x .silence x.trimmed
  | none => s

/-- Channel `c` is stopped by order (R137). -/
def State.stopCapture (s : State) (c : Nat) : State :=
  match s.capture c with
  | some x => s.endRecording c x .stopped x.written
  | none => s

end Sys2Proof.Machine
end

