-- ==== Sys2Proof/Machine/Programmes.lean ====
section
/-! DEFINITION. The Programme Sequencer (spec/05_programmes.md): beginning and running steps, going on, programme
output, and the ending of programmes. -/

namespace Sys2Proof.Machine

/-! ### Ending (R85, R88) -/

/-- The END notice of a programme that held a tag (R85). -/
def endNotice (slot : Nat) (cause : EndCause) (c : Option Ctx) : List Notice :=
  match c with
  | some x => (match x.tag with | some tag => [.ended slot tag cause x.skipped] | none => [])
  | none => []

/-- The programmes on `slots` end as one, their END notices in the order of `slots` (R85; for a lane, R88). -/
def State.endProgrammes (s : State) (slots : List Nat) (cause : EndCause) : State :=
  (s.leavePool slots).queueAll (slots.flatMap fun slot => endNotice slot cause (s.ctx slot))

/-- The live programmes on logical lane `l`, in ascending slot order (R88). -/
def State.liveOnLane (s : State) (l : Nat) : List Nat := s.liveSlots.filter fun slot => laneOfSlot slot == l

/-! ### Steps (R76 to R82) -/

/-- The place of step `i` among the REPEAT steps (R68: one counter for each). -/
def repIndex (steps : List Step) (i : Nat) : Nat := (steps.take i).countP Step.isRep

/-- The counters a PLAY order sets: each REPEAT step's "times" (R72). -/
def initialCounters (steps : List Step) : List Nat :=
  steps.filterMap fun
    | .rep _ times => some times
    | .tone _ _ _ | .silence _ | .phrase _ | .loop _ _ | .digits _ _ => none

/-- A TONE or SILENCE step begins: `frames` of output, or none for unlimited, at cadence position 0 (R59, R77). -/
def Ctx.beginTimed (c : Ctx) (frames : Option Nat) : Ctx :=
  { c with state := .timed, remaining := frames, position := 0 }

/-- The digits a DIGITS step will play (R80). -/
def Ctx.digitsFor (c : Ctx) (count : Nat) : Nat :=
  if count = 0 then c.params.length - c.cursor else min count (c.params.length - c.cursor)

/-- A jump to `target`: PENDING there, the cursor at 0 (R82). -/
def Ctx.jump (c : Ctx) (target : Nat) : Ctx := { c with step := target, cursor := 0, state := .pending }

/-- What a REPEAT step with counter place `k` does: a jump, or a falling through (R82). The Bool says it jumps. -/
def Ctx.repeatStep (c : Ctx) (k target times : Nat) : Ctx × Bool :=
  if times = 0 then (c.jump target, true)
  else if 1 < c.counters.getD k 0 then
    ({ c.jump target with counters := c.counters.set k (c.counters.getD k 0 - 1) }, true)
  else ({ c.nextStep with counters := c.counters.set k times }, false)

/-- How a step, once begun, leaves the going on: it takes time or jumps (`stop`), it passes at once (`pass`), or the
programme is past its last step (`over`). -/
inductive Begun where
  | stop (s : State)
  | pass (s : State)
  | over

/-- The answer to a request made in a going on: given, or abandoned as it was made and passed over at once
(R78, R79, R81, R84). -/
def State.answer (s : State) (own : Bool) (slot p : Nat) (kind : ReqKind) : Begun :=
  match s.request own slot p kind with
  | some t => .stop t
  | none => .pass (s.modifyCtx slot fun c => c.pass.skip)

/-- One act of a going on for the context `c` of `slot`, running template `t`: its next digit in a DIGITS step with
digits left, else the step its index names is begun (R75, R76, R77 to R82). -/
def State.beginStep (s : State) (own : Bool) (slot : Nat) (c : Ctx) (t : Template) : Begun :=
  match t.steps[c.step]? with
  | none => .over
  | some (.tone _ _ duration) =>
    .stop (s.setCtx slot (some (c.beginTimed (if duration = 0 then none else some (80 * duration)))))
  | some (.silence duration) => .stop (s.setCtx slot (some (c.beginTimed (some (80 * duration)))))
  | some (.phrase p) => s.answer own slot p .gather
  | some (.loop p cycles) => (s.setCtx slot (some { c with cycles })).answer own slot p .loop
  | some (.digits base count) =>
    if 0 < c.digitsLeft then s.answer own slot (base + c.params.getD c.cursor 0) .digit
    else if c.digitsFor count = 0 then .pass (s.setCtx slot (some c.nextStep))
    else .pass (s.setCtx slot (some { c with digitsLeft := c.digitsFor count }))
  | some (.rep target times) =>
    let r := c.repeatStep (repIndex t.steps c.step) target times
    if r.2 then .stop (s.setCtx slot (some r.1)) else .pass (s.setCtx slot (some r.1))

/-- The acts a going on can take: each moves the step index or the cursor on, and a DIGITS step sets its digits left
once (R76). -/
def goingOnBound (c : Ctx) (t : Template) : Nat := 2 * t.steps.length + c.params.length + 2

/-- The going on of the context of `slot`, act by act, until a step takes time, jumps, or the programme completes
(R75, R76, R87). -/
def State.goOn (own : Bool) (slot : Nat) : Nat → State → State
  | 0, s => s
  | n + 1, s =>
    match s.ctx slot with
    | none => s
    | some c =>
      match s.template c.template with
      | none => s
      | some t =>
        match s.beginStep own slot c t with
        | .stop s' => s'
        | .pass s' => State.goOn own slot n s'
        | .over => s.endProgrammes [slot] .completed

/-- The context of `slot` goes on. -/
def State.goOnSlot (s : State) (own : Bool) (slot : Nat) : State :=
  match s.ctx slot with
  | none => s
  | some c =>
    match s.template c.template with
    | none => s
    | some t => State.goOn own slot (goingOnBound c t) s

/-- A timed step whose frames remaining are 0 ends: the index moves on, PENDING (R77). -/
def Ctx.endTimed (c : Ctx) : Ctx := { c.nextStep with state := .pending, position := 0 }

/-! ### Output (R33, R69) -/

/-- What a context's programme output is taken from. -/
inductive Source where
  | silent
  | tone (t : Nat)
  | head (h : Nat)
  deriving DecidableEq, Repr

/-- The source of Y by the context's record (R69). PLAYING gives its head's sample where it hears the byte the head
reads at this frame event. -/
def State.sourceOf (s : State) (c : Ctx) : Source :=
  match c.state with
  | .timed =>
    (match s.stepOf c with
     | some (.tone tone cadence _) => if gateOn (s.cadence cadence) c.position then .tone tone else .silent
     | some (.silence _) | some (.phrase _) | some (.loop _ _) | some (.digits _ _) | some (.rep _ _) | none => .silent)
  | .waiting =>
    (match s.template c.template with
     | some t => if gateOn (s.cadence t.cadence) c.position then .tone t.tone else .silent
     | none => .silent)
  | .playing =>
    (match c.head with
     | some h => if c.hears then .head h else .silent
     | none => .silent)
  | .gatherWait | .pending => .silent

/-- The counting after a frame event of output (R75, R77, R59, R60). -/
def State.counted (s : State) (c : Ctx) : Ctx :=
  match c.state with
  | .timed =>
    let remaining := c.remaining.map fun n => n - 1
    (match s.stepOf c with
     | some (.tone _ cadence _) =>
       { c with remaining, position := advancePosition (s.cadence cadence) c.position }
     | some (.silence _) | some (.phrase _) | some (.loop _ _) | some (.digits _ _) | some (.rep _ _) | none =>
       { c with remaining })
  | .waiting =>
    (match s.template c.template with
     | some t => { c with position := advancePosition (s.cadence t.cadence) c.position }
     | none => c)
  | .gatherWait | .playing | .pending => c

/-! ### Starting (R70 to R73) -/

/-- The record a PLAY order sets (R72). -/
def Ctx.started (template : Nat) (mode : Insertion) (t : Template) (params : List Nat) (tag : Option Nat) : Ctx :=
  { template, mode, step := 0, state := .pending, remaining := none, position := 0
    counters := initialCounters t.steps, params, cursor := 0, digitsLeft := 0, request := none, head := none
    mark := 0, cycles := 0, finished := false, tag, skipped := 0, fellBack := false
    todo := false, news := false, hears := false }

/-- A taken PLAY: the programme on the slot, if any, ends PREEMPTED, then the new context is bound and step 0 begun at
once (R72, R73). -/
def State.startProgramme (s : State) (slot template : Nat) (mode : Insertion) (t : Template) (params : List Nat)
    (tag : Option Nat) : State :=
  let s := if (s.ctx slot).isSome then s.endProgrammes [slot] .preempted else s
  (s.setCtx slot (some (Ctx.started template mode t params tag))).goOnSlot false slot

end Sys2Proof.Machine
end

