-- ==== Sys2Proof/Machine/Lanes.lean ====
section
/-! DEFINITION. The Lane Receiver (spec/01_the_highway_lanes.md): the search in HUNT, the judging of framing bytes,
the completion of CHECK, lane loss and its passing on, and the control lane. -/

namespace Sys2Proof.Machine

/-- The framing byte of an A frame (section 1.1). -/
def framingA : Byte := 0x2D

/-- The logical lane an identity byte names: 0xC0 to 0xC3 (section 1.1). -/
def identityOf (b : Byte) : Option Nat := if 0xC0 ≤ b.toNat ∧ b.toNat ≤ 0xC3 then some (b.toNat - 0xC0) else none

/-- The judgement of a framing byte (R2). -/
inductive Judgement where
  | correct
  | incorrect
  | mismatch
  deriving DecidableEq, Repr

/-- A framing byte judged against the expected kind and the established identity (R2). -/
def judge (expected : Option Kind) (identity : Option Nat) (b : Byte) : Judgement :=
  match expected with
  | some .b =>
    (match identityOf b, identity with
     | some _, none => .correct
     | some l, some k => if l = k then .correct else .mismatch
     | none, _ => .incorrect)
  | some .a | none => if b = framingA then .correct else .incorrect

/-- The other kind. -/
def Kind.other : Kind → Kind
  | .a => .b
  | .b => .a

/-- Back to HUNT: identity and counts cleared, the elastic store emptied, the search begun afresh; the slip count is
kept (R4, R6, R12). -/
def Lane.toHunt (x : Lane) : Lane := { Lane.initial with slips := x.slips }

/-- The candidate A frame has arrived: CHECK with a count of 0, no identity, a B frame expected (R3). -/
def Lane.toCheck (x : Lane) : Lane := { Lane.initial with align := .check, expected := some .b, slips := x.slips }

/-- A lane in HUNT examines one byte: 0x2D begins a candidate, and the candidate's 34th byte completes it (R3). -/
def Lane.huntByte (x : Lane) (b : Byte) : Lane :=
  match x.align with
  | .hunt =>
    if x.search = 0 then (if b = framingA then { x with search := 1 } else x)
    else if x.search + 1 < 34 then { x with search := x.search + 1 }
    else x.toCheck
  | .check | .aligned | .spare => x

/-- The 34 bytes of a lane frame in the order of their positions (section 1.1). -/
def frameBytes (f : LaneFrame) : List Byte := f.framing :: f.service :: f.slots

/-- The kind flips at every lane frame arrival (R1). -/
def Lane.flip (x : Lane) : Lane := { x with expected := x.expected.map Kind.other }

/-- A correct framing byte in CHECK: the count rises, and the first identity byte establishes the identity (R2, R4).
The frame that brings the count to 8 is kept for the elastic store (R5). -/
def Lane.checkCorrect (x : Lane) (f : LaneFrame) (late : Bool) : Lane :=
  { x.flip with
    checks := x.checks + 1
    identity := match x.identity, x.expected with
      | none, some .b => identityOf f.framing
      | i, _ => i
    store := if x.checks + 1 = 8 then some ⟨f, false⟩ else none
    late }

/-- The mismatch count after a judged frame (R7): a mismatch raises it, a B frame that names the established identity
clears it, anything else leaves it. -/
def Lane.mismatchesAfter (x : Lane) (j : Judgement) : Nat :=
  match j, x.expected with
  | .mismatch, _ => x.mismatches + 1
  | .correct, some .b => 0
  | .correct, some .a => x.mismatches
  | .correct, none => x.mismatches
  | .incorrect, _ => x.mismatches

/-- A frame enters the elastic store; an untaken one there is discarded with a drop slip (R12). -/
def Lane.push (x : Lane) (held : Held) : Lane :=
  { x with store := some held, slips := if x.store.isSome then min 255 (x.slips + 1) else x.slips }

/-- A judged frame on an ALIGNED or SPARE lane: the counts (R6, R7). -/
def Lane.judged (x : Lane) (j : Judgement) : Lane :=
  { x.flip with
    losses := if j = .correct then 0 else x.losses + 1
    mismatches := x.mismatchesAfter j }

/-- The frame ends the lane: one of the counts has reached 4 (R6, R7). -/
def Lane.ends (x : Lane) : Bool := x.losses == 4 || x.mismatches == 4

/-- A judged frame on an ALIGNED lane: a frame that ends the lane is discarded, any other enters the elastic store
with its suspect mark (R6). -/
def Lane.receive (x : Lane) (f : LaneFrame) (j : Judgement) : Lane :=
  if (x.judged j).ends then { x.judged j with store := none }
  else (x.judged j).push ⟨f, j != .correct⟩

/-- What an arrival of a lane frame does to its lane (R1 to R7). On a lane in HUNT that has no candidate the 34 bytes
are examined one by one; with a candidate in progress the arrival is the candidate's (R3). -/
def Lane.arrive (x : Lane) (f : LaneFrame) (late : Bool) : Lane :=
  match x.align with
  | .hunt => if x.search = 0 then (frameBytes f).foldl Lane.huntByte x else x.toCheck
  | .check => if judge x.expected x.identity f.framing = .correct then x.checkCorrect f late else x.toHunt
  | .aligned => x.receive f (judge x.expected x.identity f.framing)
  | .spare => x.judged (judge x.expected x.identity f.framing)

/-! ### The control lane (R11, R147) -/

/-- The control lane as a pair of logical and physical lane. -/
def State.controlHolder (s : State) : Option (Nat × Option Nat) := s.control.map fun l => (l, s.map l)

/-- A change of control lane since `before`: the partial message is discarded without a refusal, and the frame clock
has yet to take up the new lane's timing (R11, R147). -/
def State.controlChanged (s before : State) : State :=
  if s.controlHolder = before.controlHolder then s
  else { s with
    rx := { s.rx with clockTaken := false, clockDue := false }
    orders := { s.orders with parser := .hunt } }

/-! ### Lane loss (R6, R8, R10, R14, R15) -/

/-- The Sequencer's part of a lane loss (R88). -/
def State.loseProgrammes (s : State) (l : Nat) : State := s.endProgrammes (s.liveOnLane l) .laneLost

/-- The loss of logical lane `l`, held by physical lane `p`, is passed on to the units, with the LANE notice of the
new state (R14, R15). The order of the three is the loss order's (assumption 6). -/
def State.passOnLoss (s : State) (o : LossOrder) (l p : Nat) (news : LaneNews) : State :=
  let s := if o.noticeFirst then s.queueLane l p news else s
  let s := if o.capturesFirst then (s.abortOnLane o l).loseProgrammes l else (s.loseProgrammes l).abortOnLane o l
  if o.noticeFirst then s else s.queueLane l p news

/-- A SPARE lane with identity `l` goes to HUNT; any other lane stays (R8). -/
def Lane.dropSpare (l : Nat) (x : Lane) : Lane := if x.align = .spare ∧ x.identity = some l then x.toHunt else x

/-- Physical lane `p` returns to HUNT (R6, R7). For an ALIGNED lane this is lane loss: the SPARE lanes of the same
identity go to HUNT too, the control lane may change, and the loss is passed on. -/
def State.endLane (s : State) (o : LossOrder) (p : Nat) : State :=
  match s.lane p with
  | none => s
  | some x =>
    match x.align, x.identity with
    | .aligned, some l =>
      let t := s.setLanes ((s.rx.lanes.modify p Lane.toHunt).map (Lane.dropSpare l))
      (t.controlChanged s).passOnLoss o l p .lost
    | .aligned, none => s.modifyLane p Lane.toHunt
    | .spare, _ => s.modifyLane p Lane.toHunt
    | .hunt, _ => s
    | .check, _ => s

/-! ### Completion of CHECK (R5) -/

/-- The lane becomes ALIGNED; its elastic store holds the frame that completed CHECK (R5). -/
def Lane.toAligned (x : Lane) : Lane := { x with align := .aligned, losses := 0, mismatches := 0, last := none }

/-- The lane becomes SPARE, keeping its identity, its elastic store empty (R5, R10). -/
def Lane.toSpare (x : Lane) : Lane :=
  { x with align := .spare, losses := 0, mismatches := 0, store := none, last := none }

/-- CHECK is complete on lane `p`: ALIGNED where the identity is below the width and unheld, else SPARE (R5). A lane
that thereby becomes the control lane gives the first frame event of the new timing where its arrival came late
enough (R11). -/
def State.completeCheck (s : State) (p : Nat) : State :=
  match s.lane p with
  | none => s
  | some x =>
    match x.identity with
    | none => s
    | some l =>
      if l < s.rx.width ∧ s.mapped l = false then
        let t := ((s.modifyLane p Lane.toAligned).controlChanged s).queueLane l p .aligned
        if t.isControl p then { t with rx := { t.rx with clockTaken := x.late, clockDue := x.late } } else t
      else (s.modifyLane p Lane.toSpare).queueLane l p .spare

/-! ### The lane plan (R9, R10) -/

/-- A lane under a lowered width: ALIGNED at or above it becomes SPARE (R10). -/
def Lane.lowered (width : Nat) (x : Lane) : Lane :=
  if x.align = .aligned ∧ (x.identity.any fun l => width ≤ l) then x.toSpare else x

/-- A lane under a raised width: a SPARE lane goes to HUNT (R10). -/
def Lane.raised (x : Lane) : Lane := if x.align = .spare then x.toHunt else x

/-- The logical lanes in the order in which their losses are passed on: those the loss order names, each at its first
naming, then the rest in ascending order. R10 and R14 give no order among several lanes lost by one lowering: DESIGN
CHOICE, assumption 13. -/
def lossOrdered (o : LossOrder) (lost : List Nat) : List Nat :=
  (o.lanes ++ List.range 4).eraseDups.filter fun l => lost.contains l

/-- The width becomes `width`: the change of R10 is carried out. -/
def State.changeWidth (s : State) (o : LossOrder) (width : Nat) : State :=
  if width < s.rx.width then
    let lost := (List.range 4).filter fun l => width ≤ l && s.mapped l
    let t := { s with rx := { s.rx with width, lanes := s.rx.lanes.map (Lane.lowered width) } }
    (lossOrdered o lost).foldl (fun t l => t.passOnLoss o l ((s.map l).getD 0) .spare) (t.controlChanged s)
  else if s.rx.width < width then
    { s with rx := { s.rx with width, lanes := s.rx.lanes.map Lane.raised } }
  else s

/-! ### The frame clock (R11) -/

/-- An arrival on the control lane: a frame event when the clock has taken up this lane's timing or the arrival comes
at least half a frame after the last frame event; otherwise the frame stays in the elastic store (R11). -/
def State.clockArrival (s : State) (late : Bool) : State :=
  if s.rx.clockTaken || late then { s with rx := { s.rx with clockTaken := true, clockDue := true } } else s

/-- A lane frame arrives on physical lane `p` (R1, R11). -/
def State.arriveOn (s : State) (p : Nat) (f : LaneFrame) (late : Bool) : State :=
  let t := s.modifyLane p fun x => x.arrive f late
  if t.isControl p && !((t.lane p).any Lane.ends) then t.clockArrival late else t

/-- An arrival on lane `p` comes after the frame event of the control lane's arrival before it: `p` is the control
lane, or completes CHECK with a lower identity and so takes the clock over (R11). -/
def State.succeeds (s : State) (p : Nat) : Bool :=
  s.isControl p || (s.lane p).any fun x =>
    x.align == .check && (x.checks == 7 && x.identity.any fun l => s.control.any fun k => decide (l < k))

/-- A frame event can be carried out: one is due on the control lane, or the clock runs free (R11). -/
def State.frameDue (s : State) : Bool := s.rx.clockDue || s.control.isNone

/-- The frame event that an arrival has made due is under way: its choice of a report has been made, ahead of its other
acts, and the report's start byte is not offered yet (R156; assumption 15). -/
def State.frameBegun (s : State) : Bool := s.rx.clockDue && s.sender.transmission.any fun x => x.position == 0

end Sys2Proof.Machine
end

