-- ==== Sys2Proof/Machine/Reports.lean ====
section
/-! DEFINITION. The Report Sender (spec/10_reports.md): report bodies, message framing, the choice of a report and the
byte it offers. -/

namespace Sys2Proof.Machine

/-- The start byte of a message (R141). -/
def startByte : Byte := 0xA5

/-- Idle fill (section 1.1). -/
def idleFill : Byte := 0xFF

/-- The sum of length and body bytes (R141). -/
def bodySum (body : List Byte) : Nat := body.length + (body.map BitVec.toNat).sum

/-- The check byte: length, body and check byte together are a multiple of 256 (R141). -/
def checkByte (body : List Byte) : Byte := BitVec.ofNat 8 (256 - bodySum body % 256)

/-- The whole message of a body (R141). -/
def messageOf (body : List Byte) : List Byte :=
  startByte :: BitVec.ofNat 8 body.length :: (body ++ [checkByte body])

/-- The kind byte of the report that carries a notice (section 12.5). -/
def Notice.kindByte : Notice → Byte
  | .restarted _ => 0x81
  | .lane _ _ _ => 0x82
  | .shortageBegin => 0x83
  | .shortageEnd => 0x84
  | .refused _ _ _ => 0x90
  | .status _ _ _ _ => 0x91
  | .checked _ _ _ _ => 0x92
  | .captureEnd _ _ _ _ _ => 0x93
  | .ended _ _ _ _ => 0x94

/-- What one END notice gives its report: slot, tag, cause, skipped count (section 12.5). -/
def Notice.endFields : Notice → List Byte
  | .ended slot tag cause skipped => le8 slot ++ le8 tag ++ le8 cause.code ++ le8 skipped
  | .restarted _ | .lane _ _ _ | .shortageBegin | .shortageEnd | .refused _ _ _ | .status _ _ _ _
  | .checked _ _ _ _ | .captureEnd _ _ _ _ _ => []

/-- A report body after kind and drop count, from the notice; `waiters` is the length of the wait queue as the report
begins (R160, section 12.5). -/
def Notice.content (waiters : Nat) : Notice → List Byte
  | .restarted pattern => le8 (if pattern then 1 else 0)
  | .lane logical physical news => le8 logical ++ le8 physical ++ le8 news.code
  | .shortageBegin => le8 waiters
  | .shortageEnd => []
  | .refused cause (some (code, ref)) detail => le8 cause.code ++ [1, code, ref] ++ le16 detail
  | .refused cause none detail => le8 cause.code ++ [0, 0, 0] ++ le16 detail
  | .status ref subject number part => [ref] ++ le8 subject ++ le16 number ++ part
  | .checked ref valid invalid lowest => [ref] ++ le16 valid ++ le16 invalid ++ le16 lowest
  | .captureEnd channel phrase cause length suspects =>
    le8 channel ++ le16 phrase ++ le8 cause.code ++ le24 length ++ le24 suspects
  | .ended slot tag cause skipped => le8 1 ++ Notice.endFields (.ended slot tag cause skipped)

/-- Whether the notice is an END notice (R157). -/
def Notice.isEnd : Notice → Bool
  | .ended _ _ _ _ => true
  | .restarted _ | .lane _ _ _ | .shortageBegin | .shortageEnd | .refused _ _ _ | .status _ _ _ _
  | .checked _ _ _ _ | .captureEnd _ _ _ _ _ => false

/-- The END notices that one report takes from the front of the ordinary queue: a run of them, 8 at most (R157). -/
def endRun (ordinary : List Notice) : List Notice := (ordinary.takeWhile Notice.isEnd).take 8

/-- The body of the report of one notice, or of the run of END notices (R156, R157, R160). -/
def reportBody (drops waiters : Nat) (n : Notice) (run : List Notice) : List Byte :=
  if n.isEnd then
    [n.kindByte] ++ le8 drops ++ le8 run.length ++ run.flatMap Notice.endFields
  else [n.kindByte] ++ le8 drops ++ n.content waiters

/-- A report begins: its message is in transmission, and the drop count becomes 0 (R156). -/
def ReportSender.transmit (r : ReportSender) (body : List Byte) : ReportSender :=
  { r with drops := 0, transmission := some ⟨messageOf body, 0⟩ }

/-- The SHORTAGE notice last sent, once `n` has been sent (R125). -/
def sentAfter (before : Bool) : Notice → Bool
  | .shortageBegin => true
  | .shortageEnd => false
  | .restarted _ | .lane _ _ _ | .refused _ _ _ | .status _ _ _ _ | .checked _ _ _ _ | .captureEnd _ _ _ _ _
  | .ended _ _ _ _ => before

/-- The sender chooses and begins a report: the oldest urgent notice, else the oldest ordinary one with the END notices
that go with it; nothing where no notice waits (R156, R157). -/
def State.beginReport (s : State) : State :=
  match s.sender.urgent with
  | n :: urgent =>
    { s with
      sender := { s.sender with urgent }.transmit (reportBody s.sender.drops s.pool.queue.length n [])
      pool := { s.pool with sentBegin := sentAfter s.pool.sentBegin n } }
  | [] =>
    match s.sender.ordinary with
    | [] => s
    | n :: rest =>
      let run := endRun (n :: rest)
      let left := if n.isEnd then (n :: rest).drop run.length else rest
      { s with sender :=
          { s.sender with ordinary := left }.transmit (reportBody s.sender.drops s.pool.queue.length n run) }

/-- The conditions of a choice: nothing in transmission, and not held back by a restart (R156, R159). -/
def State.mayBegin (s : State) : Bool := s.sender.transmission.isNone && !s.sender.hold

/-- The byte the sender offers at a frame event, `mapped` saying whether an outbound lane is mapped at it: a report is
begun where the conditions hold, and the message's next byte, or idle fill, is offered (R156, R158, R159). -/
def State.offerByte (s : State) (mapped : Bool) : State × Byte :=
  if s.sender.hold then ({ s with sender := { s.sender with hold := false } }, idleFill)
  else
    let t := if s.mayBegin && mapped then s.beginReport else s
    match t.sender.transmission with
    | some x =>
      ({ t with sender := { t.sender with transmission := some { x with position := x.position + 1 } } },
       x.bytes.getD x.position idleFill)
    | none => (t, idleFill)

/-- The report is complete: the message in transmission becomes absent (R158). -/
def State.finishReport (s : State) : State := { s with sender := { s.sender with transmission := none } }

end Sys2Proof.Machine
end

