-- ==== Sys2Proof/Machine/Status.lean ====
section
/-! DEFINITION. The subject parts of STATUS notices, field by field in the order of section 12.6 (R161). -/

namespace Sys2Proof.Machine

/-- A one-byte field with 0xFF as its mark of absence (section 12.6). -/
def le8Or (x : Option Nat) : List Byte := le8 (x.getD 0xFF)

/-- The context part of a SLOT reply (R90). -/
def Ctx.statusPart (c : Ctx) : List Byte :=
  le8 c.template ++ le8 c.mode.code ++ le8 c.step ++ le8 c.state.code
  ++ le24 (if c.state = .timed then c.remaining.getD 0xFFFFFF else 0)
  ++ le8 c.params.length ++ le8 c.cursor ++ le8 c.digitsLeft
  ++ le8 (match c.head with
      | some h => h
      | none => if c.state = .waiting then 0xFE else 0xFF)
  ++ le8 (c.tag.getD 0) ++ le8 c.skipped ++ flagByte c.fellBack

/-- The SLOT part (R50, R90). -/
def State.slotPart (s : State) (slot : Nat) : List Byte :=
  let e := s.slots.getD slot ⟨.through, 0⟩
  let inMap := s.mapped (laneOfSlot slot)
  le8 e.base.code ++ le8 e.pad ++ flagByte inMap
  ++ le8 (if inMap then s.effectiveCode slot else e.base.code)
  ++ match s.ctx slot with
    | some c => flagByte true ++ c.statusPart
    | none => flagByte false

/-- The frames left on the timer of a head (R128). -/
def HeadPhase.timer : HeadPhase → Nat
  | .gathering t => t
  | .running => 0
  | .linger t => t

/-- The HEAD part (R128). -/
def State.headPart (s : State) (h : Nat) : List Byte :=
  match s.headRun h with
  | none => le8 0
  | some r =>
    le8 r.phase.code ++ le8 r.mode.code ++ le16 r.phrase ++ le24 r.start ++ le24 r.length ++ le8 r.trim
    ++ le24 r.offset ++ le8 (s.subscribers h).length ++ le24 r.phase.timer

/-- The voice timer of a channel; 0 while RECORDING (section 12.6). -/
def CapturePhase.timer : CapturePhase → Nat
  | .waitingVoice t => t
  | .recording => 0

/-- The two bytes of the quiet run; a free value where they cannot hold it (assumption 31). -/
def quietField (n : Nat) : List Byte := le16 (if n < 65536 then n else (Config.quietRunField n).toNat)

/-- The CAPTURE part (R140). -/
def State.capturePart (s : State) (c : Nat) : List Byte :=
  match s.capture c with
  | none => le8 0
  | some x =>
    le8 x.phase.code ++ le8 x.slot ++ le16 x.phrase ++ le8 x.window ++ le24 x.offset ++ le24 x.start
    ++ le24 x.limit ++ le16 x.threshold ++ le24 x.phase.timer ++ le8 x.silenceHold ++ le24 x.written
    ++ le24 (x.lastLoud.getD 0xFFFFFF) ++ quietField x.quiet ++ le24 x.suspects

/-- One component of a TONE part (R63). -/
def Oscillator.statusPart (o : Oscillator) : List Byte := le16 o.freq ++ le16 o.amp ++ le16 o.inc

/-- The TONE part (R63). -/
def State.tonePart (s : State) (t : Nat) : List Byte :=
  let e := s.bank.tones.getD t ⟨.silent, .silent⟩
  e.one.statusPart ++ e.two.statusPart

/-- The PHRASE part (R105). -/
def State.phrasePart (s : State) (p : Nat) : List Byte :=
  (match s.entry p with
    | none => le8 0 ++ le8 0 ++ le24 0 ++ le24 0 ++ le8 0
    | some e => le8 e.state.code ++ le8 e.window ++ le24 e.offset ++ le24 e.length ++ le8 e.trim)
  ++ le8 s.su.gate.code ++ flagByte (s.playable p)

/-- The number of heads whose state has code `code` (R128). -/
def State.headsIn (s : State) (code : Nat) : Nat :=
  (List.range 24).countP fun h => (match s.headRun h with | none => 0 | some r => r.phase.code) == code

/-- The SUMMARY part (R152, R161). -/
def State.summaryPart (s : State) : List Byte :=
  (s.rx.lanes.flatMap fun x => le8 x.align.code ++ le8Or x.identity ++ le8 x.slips)
  ++ ((List.range 4).flatMap fun l => le8Or (s.map l))
  ++ le8Or s.control ++ le8 s.rx.width ++ le8 s.rx.restartSet.toNat
  ++ le8 s.liveSlots.length ++ le8 s.su.gate.code ++ flagByte s.su.mapLoaded
  ++ le8 (s.headsIn 0) ++ le8 (s.headsIn 1) ++ le8 (s.headsIn 2) ++ le8 (s.headsIn 3)
  ++ le8 s.pool.queue.length ++ le8 s.pool.gatherWindow ++ le8 s.pool.lingerTime ++ le8 s.pool.waitLimit
  ++ flagByte s.shortageMark ++ le8 ((List.range 2).countP fun c => (s.capture c).isSome)
  ++ le8 s.sender.ordinary.length

end Sys2Proof.Machine
end

