-- ==== Sys2Proof/Machine/Orders.lean ====
section
/-! DEFINITION. The Order Receiver (spec/09_the_order_channel.md): the parser, and the taking of each order with the
checks and effects its owner's chapter gives it. A taking first compares the body length (R149), then makes the
owner's checks in their order; a failed one queues a REFUSED notice and leaves the rest as it was (R151). -/

namespace Sys2Proof.Machine

/-! ### The parser (R142 to R146) -/

/-- The parser's state replaced. -/
def State.setParser (s : State) (parser : Parser) : State := { s with orders := { s.orders with parser } }

/-- A message ends garbled: back to HUNT with a GARBLED refusal of the given reason (R144 to R146). -/
def State.garble (s : State) (reason : Nat) : State := (s.setParser .hunt).refuseGarbled reason

/-- The parser deals with one service byte (R143 to R146). A completed message stands due until taken (R149). -/
def State.parseByte (s : State) (b : Byte) (suspect : Bool) : State :=
  match s.orders.parser with
  | .hunt => if !suspect && b == startByte then s.setParser .length else s
  | .length =>
    if suspect then s.garble 2
    else if 2 ≤ b.toNat ∧ b.toNat ≤ 72 then s.setParser (.body b.toNat [] b.toNat)
    else s.garble 0
  | .body len bytes sum =>
    if suspect then s.garble 2
    else
      let bytes := bytes ++ [b]
      let sum := (sum + b.toNat) % 256
      s.setParser (if bytes.length = len then .check len bytes sum else .body len bytes sum)
  | .check _ bytes sum =>
    if suspect then s.garble 2
    else if (sum + b.toNat) % 256 = 0 then { s with orders := { parser := .hunt, due := some bytes } }
    else s.garble 1

/-! ### Lane Receiver, slot table, Tone Bank -/

/-- The lanes a restart set byte names. -/
def namedLanes (set : Nat) : List Nat := (List.range 8).filter fun j => set.testBit j

/-- LANE PLAN (R9, R10). -/
def takeLanePlan (ref : Byte) (args : List Byte) (o : LossOrder) (s : State) : State :=
  if !lengthIs 4 args then s.refuse .badLength OrderCode.lanePlan ref (bodyLength args)
  else
    let width := field8 args 0
    let set := field8 args 1
    if width ≠ 1 ∧ width ≠ 2 ∧ width ≠ 4 then s.refuse .badParam OrderCode.lanePlan ref
    else if set = 0 then s.refuse .badParam OrderCode.lanePlan ref
    else if (namedLanes set).any fun l => width ≤ l then s.refuse .badParam OrderCode.lanePlan ref
    else ({ s with rx := { s.rx with restartSet := BitVec.ofNat 4 set, qualCount := 0 } }).changeWidth o width

/-- The entries of group `g` selected by `mask` are written (R48). -/
def writeSlots (slots : List SlotEntry) (g mask : Nat) (e : SlotEntry) : List SlotEntry :=
  (List.range 8).foldl (fun t j => if mask.testBit j then t.set (8 * g + j) e else t) slots

/-- SET SLOTS (R47, R48). -/
def takeSetSlots (ref : Byte) (args : List Byte) (s : State) : State :=
  if !lengthIs 6 args then s.refuse .badLength OrderCode.setSlots ref (bodyLength args)
  else if 15 < field8 args 0 then s.refuse .badSlot OrderCode.setSlots ref
  else
    match BaseAction.ofCode (field8 args 2) with
    | none => s.refuse .badParam OrderCode.setSlots ref
    | some base =>
      { s with slots := writeSlots s.slots (field8 args 0) (field8 args 1) ⟨base, min (field8 args 3) 7⟩ }

/-- TONE (R53). -/
def takeTone (ref : Byte) (args : List Byte) (s : State) : State :=
  if !lengthIs 11 args then s.refuse .badLength OrderCode.tone ref (bodyLength args)
  else if 31 < field8 args 0 then s.refuse .badParam OrderCode.tone ref
  else
    let e : ToneEntry := ⟨.load (field16 args 1) (field16 args 3), .load (field16 args 5) (field16 args 7)⟩
    { s with bank := { s.bank with tones := s.bank.tones.set (field8 args 0) e } }

/-- CADENCE (R57). -/
def takeCadence (ref : Byte) (args : List Byte) (s : State) : State :=
  if !lengthIs 12 args then s.refuse .badLength OrderCode.cadence ref (bodyLength args)
  else if 15 < field8 args 0 then s.refuse .badParam OrderCode.cadence ref
  else if 4 < field8 args 1 then s.refuse .badParam OrderCode.cadence ref
  else if (parsePairs args (field8 args 1)).any fun p => p.1 == 0 then s.refuse .badParam OrderCode.cadence ref
  else if s.cadenceInUse (field8 args 0) then s.refuse .inUse OrderCode.cadence ref
  else
    { s with bank := { s.bank with
        cadences := s.bank.cadences.set (field8 args 0) (parsePairs args (field8 args 1)) } }

/-! ### Programme Sequencer -/

/-- TEMPLATE (R66, R67). -/
def takeTemplate (ref : Byte) (args : List Byte) (s : State) : State :=
  if !lengthCounts 6 4 3 args then s.refuse .badLength OrderCode.template ref (bodyLength args)
  else if 63 < field8 args 0 then s.refuse .badParam OrderCode.template ref
  else
    match parseTemplate args with
    | .error i => s.refuse .badTemplate OrderCode.template ref i
    | .ok t =>
      if s.templateInUse (field8 args 0) then s.refuse .inUse OrderCode.template ref
      else { s with seq := { s.seq with templates := s.seq.templates.set (field8 args 0) (some t) } }

/-- The tag of a PLAY order; 0 gives none (R71). -/
def playTag (args : List Byte) : Option Nat := if field8 args 5 = 0 then none else some (field8 args 5)

/-- The parameters of a PLAY order. -/
def playParams (args : List Byte) : List Nat := (args.drop 7).map BitVec.toNat

/-- The nonzero tag is held by another live context; with the preempt flag the order's own slot is left out (R71). -/
def State.tagHeld (s : State) (tag : Option Nat) (slot : Nat) (preempt : Bool) : Bool :=
  tag.isSome && s.liveSlots.any fun k =>
    !(preempt && k == slot) && (s.ctx k).any fun c => c.tag == tag

/-- Why a PLAY order is refused, the first check that fails in the order of R70's table; none when it is taken. -/
def State.playRefusal (s : State) (args : List Byte) : Option Cause :=
  let slot := field16 args 0
  let preempt := field8 args 4 != 0
  if 127 < slot then some .badSlot
  else if s.rx.width ≤ laneOfSlot slot then some .laneAbsent
  else if !s.mapped (laneOfSlot slot) then some .laneDown
  else if 63 < field8 args 2 ∨ (Insertion.ofCode (field8 args 3)).isNone then some .badParam
  else if (s.template (field8 args 2)).isNone then some .noTemplate
  else if 12 < field8 args 6 ∨ (playParams args).any (fun d => 15 < d) then some .badParam
  else if s.tagHeld (playTag args) slot preempt then some .tagInUse
  else if (s.ctx slot).isSome && !preempt then some .busy
  else if (s.ctx slot).isNone && 96 ≤ s.liveSlots.length then some .noContext
  else none

/-- PLAY (R70 to R73). -/
def takePlay (ref : Byte) (args : List Byte) (s : State) : State :=
  if !lengthCounts 9 1 6 args then s.refuse .badLength OrderCode.play ref (bodyLength args)
  else
    match s.playRefusal args with
    | some cause => s.refuse cause OrderCode.play ref
    | none =>
      match Insertion.ofCode (field8 args 3), s.template (field8 args 2) with
      | some mode, some t =>
        s.startProgramme (field16 args 0) (field8 args 2) mode t (playParams args) (playTag args)
      | _, _ => s

/-- STOP (R86). -/
def takeStop (ref : Byte) (args : List Byte) (s : State) : State :=
  if !lengthIs 4 args then s.refuse .badLength OrderCode.stop ref (bodyLength args)
  else if 127 < field16 args 0 then s.refuse .badSlot OrderCode.stop ref
  else if (s.ctx (field16 args 0)).isNone then s.refuse .idle OrderCode.stop ref
  else s.endProgrammes [field16 args 0] .stopped

/-! ### Store unit -/

/-- A VALID entry becomes UNCHECKED; any other stays (R94, R104). -/
def Phrase.uncheck (e : Phrase) : Phrase := if e.state = .valid then { e with state := .unchecked } else e

/-- The windows replaced, the gate closed and the VALID entries unchecked: stages 1 to 3 of R94. -/
def State.loadMap (s : State) (windows : List Window) : State :=
  { s with su := { s.su with windows, mapLoaded := true, gate := .closedCheck
                             directory := s.su.directory.map (Option.map Phrase.uncheck) } }

/-- WINDOW MAP (R93, R94). -/
def takeWindowMap (ref : Byte) (args : List Byte) (s : State) : State :=
  if !lengthIs 42 args then s.refuse .badLength OrderCode.windowMap ref (bodyLength args)
  else
    match (parseWindows args).findIdx? Option.isNone with
    | some k => s.refuse .badWindow OrderCode.windowMap ref k
    | none => (s.loadMap ((parseWindows args).filterMap id)).abortAll.stopPool

/-- The window of an entry of a PHRASE order makes the phrase ABSENT. -/
def PhraseArg.isAbsent (e : PhraseArg) : Bool := e.window == 0xFF

/-- The window of an entry of a PHRASE order is one of the eight. -/
def PhraseArg.isPresent (e : PhraseArg) : Bool := e.window ≤ 7

/-- A capture channel that is not IDLE has phrase `p` as its target (R97, R131). -/
def State.captureTarget (s : State) (p : Nat) : Bool :=
  (List.range 2).any fun c => (s.capture c).any fun x => x.phrase == p

/-- The phrase a refused PHRASE order names where some entries have the fault `bad`: the lowest-numbered of them. R97
gives "from the first phrase number upward" for the validation alone; for a window, a length of 0 and a capture's target
the model takes the same order (DESIGN CHOICE, assumption 33). -/
def phraseAtFault (bad : Nat → PhraseArg → Bool) (es : List (Nat × PhraseArg)) : Option Nat :=
  (es.find? fun e => bad e.1 e.2).map Prod.fst

/-- Why a PHRASE order is refused, and the phrase the refusal names, in the order of R97. -/
def State.phraseRefusal (s : State) (first count : Nat) (es : List (Nat × PhraseArg)) : Option (Cause × Nat) :=
  if count = 0 ∨ 8 < count then some (.badParam, first)
  else if 512 < first + count then some (.badParam, first)
  else
    match phraseAtFault (fun _ e => !e.isPresent && !e.isAbsent) es with
    | some p => some (.badParam, p)
    | none =>
      match phraseAtFault (fun _ e => e.isPresent && e.length == 0) es with
      | some p => some (.badParam, p)
      | none =>
        match phraseAtFault (fun p _ => s.captureTarget p) es with
        | some p => some (.inUse, p)
        | none =>
          match phraseAtFault (fun _ e => s.su.mapLoaded && (e.isPresent && !s.fits e.window e.offset e.length)) es with
          | some p => some (.badPhrase, p)
          | none => none

/-- The directory entry an entry of a PHRASE order writes (R98). -/
def State.writtenEntry (s : State) (e : PhraseArg) : Option Phrase :=
  if e.isPresent then
    some { state := if s.su.mapLoaded then .valid else .unchecked
           window := e.window, offset := e.offset, length := e.length, trim := e.trim }
  else none

/-- PHRASE (R97, R98). -/
def takePhrase (ref : Byte) (args : List Byte) (s : State) : State :=
  if !lengthCounts 5 8 2 args then s.refuse .badLength OrderCode.phrase ref (bodyLength args)
  else
    let es := parsePhraseArgs args (field16 args 0) (field8 args 2)
    match s.phraseRefusal (field16 args 0) (field8 args 2) es with
    | some (cause, p) => s.refuse cause OrderCode.phrase ref p
    | none =>
      { s with su := { s.su with
          directory := es.foldl (fun d e => d.set e.1 (s.writtenEntry e.2)) s.su.directory } }

/-- A defined entry marked by its validation (R100). -/
def State.recheck (s : State) (e : Phrase) : Phrase :=
  { e with state := if s.fits e.window e.offset e.length then .valid else .invalid }

/-- The number of entries in a state. -/
def entriesIn (directory : List (Option Phrase)) (st : EntryState) : Nat :=
  directory.countP fun e => e.any fun x => x.state == st

/-- The lowest-numbered INVALID phrase, or 0xFFFF (R100). -/
def lowestInvalid (directory : List (Option Phrase)) : Nat :=
  (directory.findIdx? fun e => e.any fun x => x.state == .invalid).getD 0xFFFF

/-- DIRECTORY CHECK (R100). -/
def takeDirectoryCheck (ref : Byte) (args : List Byte) (s : State) : State :=
  if !lengthIs 2 args then s.refuse .badLength OrderCode.directoryCheck ref (bodyLength args)
  else if s.su.gate = .closedBoth then s.refuse .noMap OrderCode.directoryCheck ref
  else
    let directory := s.su.directory.map (Option.map s.recheck)
    ({ s with su := { s.su with directory, gate := .isOpen } }).queueOrdinary
      (.checked ref (entriesIn directory .valid) (entriesIn directory .invalid) (lowestInvalid directory))

/-! ### Head Pool, Capture Channels -/

/-- HEAD PLAN (R109). -/
def takeHeadPlan (ref : Byte) (args : List Byte) (s : State) : State :=
  if !lengthIs 5 args then s.refuse .badLength OrderCode.headPlan ref (bodyLength args)
  else
    { s with pool := { s.pool with
        gatherWindow := min (field8 args 0) 50, lingerTime := field8 args 1, waitLimit := max (field8 args 2) 1 } }

/-- The limit of a recording: the clamped maximum length in bytes, or the room left in the window (R132). -/
def State.captureLimit (s : State) (window offset maximum : Nat) : Nat :=
  min (max maximum 1 * 80) ((s.window window).size * 4096 - offset)

/-- The record a CAPTURE START sets (R129, R132). -/
def State.captureRecord (s : State) (args : List Byte) : Capture :=
  let window := field8 args 5
  let offset := field24 args 6
  let threshold := min (field16 args 11) 4095
  let voiceWait := max (field8 args 13) 1
  { phase := if threshold = 0 then .recording else .waitingVoice (voiceWait * 800)
    slot := field16 args 1, phrase := field16 args 3, window, offset
    start := (s.window window).base * 4096 + offset
    limit := s.captureLimit window offset (field16 args 9)
    threshold, voiceWait, silenceHold := field8 args 14
    written := 0, lastLoud := none, quiet := 0, suspects := 0, todo := false }

/-- The region overlaps the snapshot of a head that is not FREE (R131). -/
def State.snapshotOverlap (s : State) (start len : Nat) : Bool :=
  (List.range 24).any fun h => (s.headRun h).any fun r => overlaps start len r.start r.length

/-- Why a CAPTURE START is refused, the first check that fails in the order of R131's table. -/
def State.captureRefusal (s : State) (args : List Byte) : Option Cause :=
  let window := field8 args 5
  let offset := field24 args 6
  let slot := field16 args 1
  let x := s.captureRecord args
  if 1 < field8 args 0 then some .badParam
  else if (s.capture (field8 args 0)).isSome then some .captureBusy
  else if !s.su.mapLoaded then some .noMap
  else if 7 < window then some .badParam
  else if (s.window window).attr ≠ .playRecord then some .notRecordable
  else if (s.window window).size * 4096 ≤ offset then some .badParam
  else if 127 < slot then some .badSlot
  else if s.rx.width ≤ laneOfSlot slot then some .laneAbsent
  else if !s.mapped (laneOfSlot slot) then some .laneDown
  else if 511 < field16 args 3 then some .badParam
  else if s.captureTarget (field16 args 3) then some .inUse
  else if s.heldByCapture x.start x.limit || s.snapshotOverlap x.start x.limit then some .overlap
  else none

/-- CAPTURE START (R131, R132). -/
def takeCaptureStart (ref : Byte) (args : List Byte) (s : State) : State :=
  if !lengthIs 17 args then s.refuse .badLength OrderCode.captureStart ref (bodyLength args)
  else
    match s.captureRefusal args with
    | some cause => s.refuse cause OrderCode.captureStart ref
    | none => s.setCapture (field8 args 0) (some (s.captureRecord args))

/-- CAPTURE STOP (R137). -/
def takeCaptureStop (ref : Byte) (args : List Byte) (s : State) : State :=
  if !lengthIs 3 args then s.refuse .badLength OrderCode.captureStop ref (bodyLength args)
  else if 1 < field8 args 0 then s.refuse .badParam OrderCode.captureStop ref
  else if (s.capture (field8 args 0)).isNone then s.refuse .idle OrderCode.captureStop ref
  else s.stopCapture (field8 args 0)

/-! ### QUERY (R152) -/

/-- A QUERY's subject part, none for a number outside the subject's range (R152). The number of a SUMMARY is not
examined. -/
def State.queryPart (s : State) (subject number : Nat) : Option (List Byte) :=
  match subject with
  | 0 => if number ≤ 127 then some (s.slotPart number) else none
  | 1 => if number ≤ 23 then some (s.headPart number) else none
  | 2 => if number ≤ 1 then some (s.capturePart number) else none
  | 3 => if number ≤ 31 then some (s.tonePart number) else none
  | 4 => if number ≤ 511 then some (s.phrasePart number) else none
  | 5 => some s.summaryPart
  | _ => none

/-- A QUERY of subject `subject`, `args` being the body after the subject byte (R149, R152). -/
def takeQuery (subject : Nat) (ref : Byte) (args : List Byte) (s : State) : State :=
  if !lengthIs 4 args then s.refuse .badLength OrderCode.query ref (bodyLength args + 1)
  else
    match s.queryPart subject (field16 args 0) with
    | none => s.refuse .badParam OrderCode.query ref
    | some part => s.queueOrdinary (.status ref subject (field16 args 0) part)

/-- A QUERY whose subject is missing or none of the six: BAD_LENGTH, else BAD_PARAM (R149, R152). -/
def takeBadQuery (ref : Byte) (args : List Byte) (s : State) : State :=
  if !lengthIs 5 args then s.refuse .badLength OrderCode.query ref (bodyLength args)
  else s.refuse .badParam OrderCode.query ref

/-- A message whose order code names no order (R149, R151). -/
def takeUnknown (code ref : Byte) (s : State) : State := s.refuse .unknownOrder code ref

/-! ### A completed message -/

/-- A completed message is taken as the order its body decodes to (R149, R150). -/
def takeBody (o : LossOrder) (body : List Byte) (s : State) : State :=
  match decodeBody o body with
  | some (.lanePlan ref args o) => takeLanePlan ref args o s
  | some (.setSlots ref args) => takeSetSlots ref args s
  | some (.tone ref args) => takeTone ref args s
  | some (.cadence ref args) => takeCadence ref args s
  | some (.template ref args) => takeTemplate ref args s
  | some (.play ref args) => takePlay ref args s
  | some (.stop ref args) => takeStop ref args s
  | some (.windowMap ref args) => takeWindowMap ref args s
  | some (.phrase ref args) => takePhrase ref args s
  | some (.directoryCheck ref args) => takeDirectoryCheck ref args s
  | some (.headPlan ref args) => takeHeadPlan ref args s
  | some (.captureStart ref args) => takeCaptureStart ref args s
  | some (.captureStop ref args) => takeCaptureStop ref args s
  | some (.querySlot ref args) => takeQuery 0 ref args s
  | some (.queryHead ref args) => takeQuery 1 ref args s
  | some (.queryCapture ref args) => takeQuery 2 ref args s
  | some (.queryTone ref args) => takeQuery 3 ref args s
  | some (.queryPhrase ref args) => takeQuery 4 ref args s
  | some (.querySummary ref args) => takeQuery 5 ref args s
  | some (.unknownOrder code ref _) => takeUnknown code ref s
  | some _ => s
  | none =>
    match body with
    | _ :: ref :: args => takeBadQuery ref args s
    | _ => s

end Sys2Proof.Machine
end

