-- ==== Sys2Proof/Machine/Settle.lean ====
section
/-! DEFINITION. Power-on, restart, and the carrying out of what stands due: the events the latest arrival and the
latest frame event have left, which no later act may overtake (assumptions 3 and 26). -/

namespace Sys2Proof.Machine

/-- The release of the power-on reset pin: every unit at its power-on value; the store's contents and the queue of
commands are not the reset's to change (R18, R91). -/
def State.powerOn (s : State) : State :=
  { State.reset with su := { State.reset.su with store := s.su.store }, pending := s.pending }

/-- A restart (R17, R19, R49, R62, R89, R104, R127, R139, R148, R159). -/
def State.restart (s : State) : State :=
  { s with
    rx := { s.rx with lanes := s.rx.lanes.map fun x => { x with slips := 0 }
                      qualCount := 0, armed := false, restarting := false }
    slots := s.slots.map fun _ => ⟨.through, 0⟩
    bank := { s.bank with tones := s.bank.tones.map ToneEntry.rewind }
    seq := { s.seq with contexts := s.seq.contexts.map fun _ => none }
    su := { s.su with directory := s.su.directory.map (Option.map Phrase.uncheck)
                      gate := if s.su.mapLoaded then .closedCheck else .closedBoth }
    pool := { s.pool with heads := s.pool.heads.map fun x => { x with run := none }, queue := [], sentBegin := false }
    caps := s.caps.map fun _ => none
    sender := { urgent := [.restarted true], ordinary := [], drops := 0, transmission := none, hold := true } }

/-! ### One event each, where it is due -/

/-- The event's effect where it is due, else nothing. -/
def State.onDue (s : State) (due : Bool) (effect : State → State) : State := if due then effect s else s

/-- CHECK_COMPLETE, where due (R5). -/
def State.dueCheck (s : State) (p : Nat) : State := s.onDue (s.checkDue p) fun s => s.completeCheck p

/-- LANE_LOSS, where due (R6). -/
def State.dueLoss (o : LossOrder) (s : State) (p : Nat) : State := s.onDue (s.lossDue p) fun s => s.endLane o p

/-- MISMATCH_LANE_LOSS, where due (R7). -/
def State.dueMismatch (o : LossOrder) (s : State) (p : Nat) : State := s.onDue (s.mismatchDue p) fun s => s.endLane o p

/-- TIMED_STEP_END, where due (R77). -/
def State.dueTimedEnd (s : State) (slot : Nat) : State :=
  s.onDue (s.timedEndDue slot) fun s => s.modifyCtx slot Ctx.endTimed

/-- GATHER_TIMER_EXPIRY, where due (R115). -/
def State.dueGather (s : State) (h : Nat) : State := s.onDue (s.gatherDue h) fun s => s.expireGather h

/-- LINGER_TIMER_EXPIRY, where due (R120). -/
def State.dueLinger (s : State) (h : Nat) : State := s.onDue (s.lingerDue h) fun s => s.expireLinger h

/-- WAIT_TIMER_EXPIRY, where due (R123). -/
def State.dueWait (s : State) (slot : Nat) : State := s.onDue (s.waitDue slot) fun s => s.expireWait slot

/-- PHRASE_COMPLETE, where due (R117). -/
def State.duePhrase (s : State) (h : Nat) : State :=
  s.onDue (s.phraseDue h) fun s => s.completeOn h (s.subscribers h)

/-- LOOP_CYCLES_COMPLETE, where due (R118). -/
def State.dueLoop (s : State) (h : Nat) : State :=
  s.onDue (!(s.finishedOn h).isEmpty) fun s => s.completeOn h (s.finishedOn h)

/-- VOICE_TIMER_EXPIRY, where due (R133). -/
def State.dueVoice (s : State) (c : Nat) : State := s.onDue (s.voiceDue c) fun s => s.expireVoice c

/-- CAPTURE_FULL, where due (R135). -/
def State.dueFull (s : State) (c : Nat) : State := s.onDue (s.fullDue c) fun s => s.endFull c

/-- CAPTURE_SILENCE, where due (R135). -/
def State.dueSilence (s : State) (c : Nat) : State := s.onDue (s.silenceDue c) fun s => s.endSilence c

/-- RESTART, where due (R17). -/
def State.dueRestart (s : State) : State := s.onDue s.restartDue State.restart

/-- REPORT_COMPLETE, where due (R158). -/
def State.dueReport (s : State) : State := s.onDue s.reportDue State.finishReport

/-- The message completed at the latest frame event is taken as an order, where it has not been (R149). -/
def State.dueOrder (o : LossOrder) (s : State) : State :=
  match s.orders.due with
  | some body => takeBody o body { s with orders := { s.orders with due := none } }
  | none => s

/-! ### All of them -/

/-- The lane events of the latest arrival: the decisions of R5, R6 and R7 belong to the arrival itself. -/
def State.settleLanes (s : State) : State :=
  (List.range 4).foldl (fun s p => ((s.dueCheck p).dueLoss .plain p).dueMismatch .plain p) s

/-- The timers of gathering and lingering heads that have run out (R115, R120). -/
def State.settleTimers (s : State) : State :=
  (List.range 24).foldl State.dueLinger ((List.range 24).foldl State.dueGather s)

/-- The endings that belong to the frame work that brought them about, so that no order finds the work done and its
ending not (R77, R117, R118, R135), the expiries of the head timers it has counted among them (R115, R116, R120, R152). -/
def State.settleEndings (s : State) : State :=
  let s := s.settleLanes
  let s := (List.range 128).foldl State.dueTimedEnd s
  let s := (List.range 24).foldl State.duePhrase s
  let s := (List.range 24).foldl State.dueLoop s
  ((List.range 2).foldl (fun s c => ((s.dueVoice c).dueSilence c).dueFull c) s).settleTimers

/-- The waiters whose wait timer has run out, oldest first: after every offer of the frame event (R123). -/
def State.settleWaits (s : State) : State := (s.pool.queue.map Waiter.slot).foldl State.dueWait s

/-- Everything that stands due is carried out: endings with the head timers, the order, wait timers, restart, report. A
restart that stands due comes whatever order is taken before it (R148). -/
def State.settle (s : State) : State :=
  let s := s.settleEndings.dueOrder .plain
  (s.settleWaits.dueRestart).dueReport

end Sys2Proof.Machine
end

