-- ==== Sys2Proof/Machine/Frame.lean ====
section
/-! DEFINITION. The frame event (R11): what it takes from the elastic stores, the work every unit does at it, and the
outbound frames. The work is a list of acts; a schedule may bring some of them forward, the rest follow in a standing
order (assumption 5). -/

namespace Sys2Proof.Machine

/-- The work of one frame event in progress. `base` is the state as it stood when the frame event arrived (R37),
`tones` the tone entries then (R52), `taken` the frame taken from each physical lane's store (R12), `ys` the source of
each slot's programme output. `lapsed`: the slots of the waiters that have left by the wait limit at this frame event, and
`queued` the wait queue before the first of them left (R123). -/
structure Work where
  s : State
  base : State
  tones : List ToneEntry
  taken : List (Option Held)
  ys : List Source
  qualified : Bool
  parsed : Bool
  queued : List Waiter
  lapsed : List Nat
  offered : Option Byte
  restarted : Bool
  bad : Option Nat

/-! ### Arrival -/

/-- The frame an ALIGNED lane contributes: the one waiting in its store, else the one of the previous frame event
again (R12). -/
def Lane.contribution (x : Lane) : Option Held :=
  match x.align with
  | .aligned => (match x.store with | some held => some held | none => x.last)
  | .hunt | .check | .spare => none

/-- The lane after a frame event has taken its frame; a repeated frame is a slip (R12). -/
def Lane.take (x : Lane) : Lane :=
  match x.align with
  | .aligned =>
    { x with
      store := none
      last := x.contribution
      slips := if x.store.isNone && x.last.isSome then min 255 (x.slips + 1) else x.slips }
  | .hunt | .check | .spare => x

/-- The marks of a head at the arrival of a frame event: its place, and the timer that is to count (R107, R110). -/
def HeadRun.mark0 (r : HeadRun) : HeadRun :=
  { r with
    hasRead := false
    counts := match r.phase with
      | .gathering _ | .linger _ => true
      | .running => false
    arrived := match r.phase with
      | .gathering _ => none
      | .running | .linger _ => some r.offset }

/-- The marks of a context at the arrival of a frame event (R75, R107). -/
def Ctx.mark0 (c : Ctx) : Ctx := { c with todo := true, news := false, hears := c.state == .playing }

/-- The frame event arrives: frames are taken, oscillators advance, and every unit's place at the arrival is marked (R12,
R28, R107, R110). -/
def State.arriveFrame (s : State) : State :=
  { s with
    rx := { s.rx with lanes := s.rx.lanes.map Lane.take, clockDue := false }
    bank := { s.bank with tones := s.bank.tones.map ToneEntry.advance }
    seq := { s.seq with contexts := s.seq.contexts.map (Option.map Ctx.mark0) }
    pool := { s.pool with
      heads := s.pool.heads.map fun x => { run := x.run.map HeadRun.mark0, sample := none }
      queue := s.pool.queue.map fun w => { w with counts := true } }
    caps := s.caps.map (Option.map fun x => { x with todo := true }) }

/-- The source of Y by the record of the context bound to `slot`, if any (R69). -/
def State.slotSource (s : State) (slot : Nat) : Source :=
  match s.ctx slot with
  | some c => s.sourceOf c
  | none => .silent

/-- The work begins. -/
def Work.start (s : State) : Work :=
  let t := s.arriveFrame
  { s := t, base := t, tones := s.bank.tones, taken := s.rx.lanes.map Lane.contribution
    ys := (List.range 128).map t.slotSource
    qualified := false, parsed := false, queued := [], lapsed := [], offered := none, restarted := false, bad := none }

/-- The frame taken for logical lane `l` by the map of `s` (R13). -/
def Work.frameOf (w : Work) (s : State) (l : Nat) : Option Held :=
  match s.map l with
  | some p => w.taken.getD p none
  | none => none

/-- The inbound byte of a slot with its suspect mark, where its lane's bytes are handed on (R13). -/
def Work.inbound (w : Work) (slot : Nat) : Option (Byte × Bool) :=
  (w.frameOf w.base (laneOfSlot slot)).map fun held => (held.frame.slots.getD (slot % 32) 0, held.suspect)

/-! ### The acts -/

/-- The restart byte (R17). -/
def restartByte : Byte := 0x5A

/-- The restart condition by the restart set and the map of `t` (R17). -/
def Work.restartCondition (w : Work) (t : State) : Bool :=
  (List.range 4).all fun l => !t.rx.restartSet.getLsbD l ||
    (w.frameOf t l).any fun held => !held.suspect && held.frame.service == restartByte

/-- The count reaches 1600 at this frame event, by the plan, the count and the map it arrived with: a LANE PLAN taken at
it ahead of the test does not take the restart back (R148; assumption 3). -/
def Work.reachesRestart (w : Work) : Bool :=
  w.base.rx.armed && (w.restartCondition w.base && decide (1600 ≤ w.base.rx.qualCount + 1))

/-- The qualification count and the armed state after a frame event (R17). -/
def LaneReceiver.qualify (r : LaneReceiver) (condition : Bool) : LaneReceiver :=
  match r.armed, condition with
  | true, true => { r with qualCount := r.qualCount + 1 }
  | true, false => { r with qualCount := 0 }
  | false, true => { r with qualCount := 0 }
  | false, false => { r with qualCount := 0, armed := true }

/-- The test of the restart condition, once; the count reaching 1600 makes the restart due (R17). -/
def Work.qualify (w : Work) : Work :=
  if w.qualified then w
  else
    { w with
      qualified := true
      s := { w.s with rx := { w.s.rx.qualify (w.restartCondition w.s) with restarting := w.reachesRestart } } }

/-- The frame work of the context on `slot`: going on, output, counting (R75). A context that has had news since the
arrival gives its output from the record it had then (R108). -/
def Work.workSlot (w : Work) (slot : Nat) : Work :=
  match w.s.ctx slot with
  | none => w
  | some c =>
    if !c.todo then w
    else
      let s := w.s.modifyCtx slot fun c => { c with todo := false }
      if c.news then { w with s }
      else
        let s := if c.state = .pending then s.goOnSlot true slot else s
        match s.ctx slot with
        | none => { w with s, ys := w.ys.set slot .silent }
        | some c => { w with s := s.setCtx slot (some (s.counted c)), ys := w.ys.set slot (s.sourceOf c) }

/-- The frame work of head `h`: it reads, and its timer counts, if each is to be done at this frame event and has not
been (R107, R110). R110 has the timers counted alongside the reading; the model counts a head's timer in the same act as its
reading, and the wait timers in an act of their own (DESIGN CHOICE, assumption 34). -/
def Work.headWork (w : Work) (h : Nat) : Work :=
  match w.s.headRun h with
  | none => w
  | some r =>
    if !r.reads then { w with s := w.s.countHead h }
    else if r.start + r.offset < storeSize then { w with s := (w.s.readHead h r).countHead h }
    else { w with bad := some (r.start + r.offset) }

/-- Channel `c` does its frame work, if it was active at the arrival and has not (R133, R134). -/
def Work.capture (w : Work) (c : Nat) : Work :=
  match w.s.capture c with
  | none => w
  | some x =>
    if !x.todo then w
    else
      match w.inbound x.slot with
      | none => w
      | some (b, suspect) =>
        if x.writes b suspect && storeSize ≤ x.start + x.written then { w with bad := some (x.start + x.written) }
        else { w with s := w.s.workCapture c { x with todo := false } b suspect }

/-- The state with the waiters whose limit has run out at this frame event still in their places in the queue (R123), but
for those whose programme has ended since: they would have left the queue with it (R124). -/
def Work.withLapsed (w : Work) : State :=
  let now := w.s.pool.queue
  let kept := w.queued.filter fun v =>
    (w.lapsed.contains v.slot && (w.s.ctx v.slot).isSome) || now.any fun u => u.slot == v.slot
  let later := now.filter fun v => !w.queued.any fun u => u.slot == v.slot
  { w.s with pool := { w.s.pool with queue := kept ++ later } }

/-- The loss of physical lane `p` would grant a head to a waiter that has left by its limit at this frame event. R123 has
such a waiter granted, so the loss comes before the expiry and not after it. -/
def Work.lossGrantsLapsed (w : Work) (p : Nat) (o : LossOrder) : Bool :=
  let t := w.withLapsed.settleEndings.endLane o p
  w.lapsed.any fun slot => ((t.ctx slot).bind Ctx.head).isSome

/-- A lane frame on physical lane `p` ends the lane in the course of the frame event (R6, R7, R74, R75, R138): the endings
of the work done so far stand before it, and what the lane gave this frame event has been taken (R12, R13). The control
lane's arrival is the frame event itself (R11), and an arrival that ends no ALIGNED lane is none of this frame event's.
A loss whose offers a waiter expired before it would be granted is no act: it comes before that expiry (R123). -/
def Work.laneLoss (w : Work) (p : Nat) (f : LaneFrame) (o : LossOrder) : Work :=
  if !w.base.isControl p && (w.s.lane p).any fun x =>
      x.align == .aligned && (x.judged (judge x.expected x.identity f.framing)).ends && !w.lossGrantsLapsed p o then
    { w with s := w.s.settleEndings.endLane o p }
  else w

/-- The parser deals with the control lane's service byte, once (R13, R142). -/
def Work.parse (w : Work) : Work :=
  if w.parsed then w
  else
    { w with
      parsed := true
      s := match w.base.control with
        | none => w.s
        | some l =>
          match w.frameOf w.base l with
          | some held => w.s.parseByte held.frame.service held.suspect
          | none => w.s }

/-- The Report Sender's byte of this frame event, once; idle fill after a restart taken first (R156, R158, R159). -/
def Work.offer (w : Work) : Work :=
  if w.offered.isSome then w
  else if w.restarted then { w with offered := some idleFill }
  else
    let r := w.s.offerByte w.base.anyMapped
    { w with s := r.1, offered := some r.2 }

/-- The wait timer of the waiter on `slot` has run out (R123): after the work of every head with its endings, and after
the order of this frame event, so that no offer of theirs finds the waiter gone. Whether it precedes a going on, a
capture's work or the Report Sender's choice is left to the schedule (assumption 14). -/
def Work.waitExpiry (w : Work) (slot : Nat) : Work :=
  let w := ((List.range 24).foldl Work.headWork w).parse
  let s := (w.s.settleEndings.dueOrder .plain).countWaits
  if s.waitDue slot then
    { w with
      s := s.expireWait slot
      queued := if w.lapsed.isEmpty then s.pool.queue else w.queued
      lapsed := slot :: w.lapsed }
  else { w with s }

/-- The restart at this frame event, where the count has reached 1600 (R17). -/
def Work.restart (w : Work) : Work :=
  let w := w.qualify
  if w.s.restartDue then { w with s := w.s.settleEndings.restart, restarted := w.offered.isNone || w.restarted }
  else w

/-- One act of the frame event. -/
def Work.act (w : Work) : Act → Work
  | .qualify => w.qualify
  | .contexts below => (List.range (min below 128)).foldl Work.workSlot w
  | .headWork h => w.headWork h
  | .countWaits => { w with s := w.s.countWaits }
  | .capture c => w.capture c
  | .laneLoss p f o => w.laneLoss p f o
  | .parse => w.parse
  | .takeOrder o => { w.parse with s := w.parse.s.settleEndings.dueOrder o }
  | .offerByte => w.offer
  | .restart => w.restart
  | .timedStepEnd slot => { w with s := w.s.dueTimedEnd slot }
  | .gatherExpiry h => { w with s := w.s.dueGather h }
  | .lingerExpiry h => { w with s := w.s.dueLinger h }
  | .waitExpiry slot => w.waitExpiry slot
  | .phraseComplete h => { w with s := w.s.duePhrase h }
  | .loopComplete h => { w with s := w.s.dueLoop h }
  | .voiceExpiry c => { w with s := w.s.dueVoice c }
  | .captureFull c => { w with s := w.s.dueFull c }
  | .captureSilence c => { w with s := w.s.dueSilence c }

/-- The acts of every frame event in their standing order; each is done once, so those a schedule brought forward are
not done again. -/
def standingActs : List Act :=
  [.qualify, .contexts 128] ++ (List.range 24).map .headWork ++
    [.countWaits, .capture 0, .capture 1, .parse, .offerByte]

/-! ### The Mixer and the Lane Transmitter (R36 to R42, R16) -/

/-- The programme output Y of a slot (R33). -/
def Work.output (w : Work) (slot : Nat) : Int :=
  match w.ys.getD slot .silent with
  | .silent => 0
  | .tone t => (w.tones.getD t ⟨.silent, .silent⟩).sample
  | .head h => ((w.s.head h).sample).getD 0

/-- The outbound byte of a slot whose inbound byte is `b`, by its effective action at the arrival (R36 to R42). -/
def Work.mix (w : Work) (slot : Nat) (b : Byte) : Byte :=
  let e := w.base.slots.getD slot ⟨.through, 0⟩
  match w.base.ctx slot with
  | some c =>
    (match c.mode with
     | .replace => encodeCode (w.output slot)
     | .overlay => overlayByte b e.pad (w.output slot))
  | none => (match e.base with | .through => b | .mute => silenceCode)

/-- The framing byte of an outbound frame (R16). -/
def outboundFraming (kind : Kind) (logical : Option Nat) : Byte :=
  match kind, logical with
  | .a, _ => framingA
  | .b, some l => BitVec.ofNat 8 (0xC0 + l)
  | .b, none => 0xCF

/-- The logical lane outbound physical lane `p` carries: the inbound map mirrored (R16). -/
def State.carries (s : State) (p : Nat) : Option Nat := (List.range 4).find? fun l => s.map l == some p

/-- The outbound frame of physical lane `p` (R16). -/
def Work.outbound (w : Work) (p : Nat) : LaneFrame :=
  match w.base.carries p with
  | some l =>
    { framing := outboundFraming w.base.tx.next (some l)
      service := w.offered.getD idleFill
      slots := (List.range 32).map fun n =>
        w.mix (32 * l + n) (((w.inbound (32 * l + n)).map Prod.fst).getD silenceCode) }
  | none =>
    { framing := outboundFraming w.base.tx.next none, service := idleFill, slots := List.replicate 32 silenceCode }

/-- The frame event is over: the outbound frames are sent and the A/B alternation flips (R16). -/
def Work.finish (w : Work) : State :=
  { w.s with tx := { next := w.base.tx.next.other, frames := (List.range 4).map w.outbound } }

/-- The frame event with its schedule, from a state with nothing due. -/
def runFrame (schedule : List Act) (s : State) : Host.Outcome State Fault Refusal :=
  let w := (schedule ++ standingActs).foldl Work.act (Work.start s)
  match w.bad with
  | some a => .fault (.noStoreAddress a)
  | none => .next w.finish

/-- The frame event with its schedule, once what stood due has been carried out, where a frame event can occur; otherwise
none occurs (R11; assumption 28). -/
def State.dueFrame (s : State) (schedule : List Act) : Host.Outcome State Fault Refusal :=
  if s.settle.frameDue then runFrame schedule s.settle else .next s.settle

/-- Where the frame event that is due is under way, its work is carried out, in the standing order, before what `f` does
(R156; assumption 15). -/
def State.afterBegun (s : State) (f : State → Host.Outcome State Fault Refusal) : Host.Outcome State Fault Refusal :=
  if s.frameBegun then
    match s.dueFrame [] with
    | .next t => f t
    | .fault r => .fault r
    | .refused r => .refused r
  else f s

end Sys2Proof.Machine
end

