-- ==== Sys2Proof/Machine/EventCommands.lean ====
section
/-! DEFINITION. The meanings of the events of programmes, heads, captures and reports. Each carries out its event
where the event is due, and is no event otherwise (assumption 3). -/

namespace Sys2Proof.Machine

/-- TIMED_STEP_END (R77). -/
def execTimedStepEnd (slot : Nat) (s : State) : Host.Outcome State Fault Refusal := .next (s.dueTimedEnd slot)

/-- GATHER_TIMER_EXPIRY (R115). -/
def execGatherTimerExpiry (h : Nat) (s : State) : Host.Outcome State Fault Refusal := .next (s.dueGather h)

/-- LINGER_TIMER_EXPIRY (R120). -/
def execLingerTimerExpiry (h : Nat) (s : State) : Host.Outcome State Fault Refusal := .next (s.dueLinger h)

/-- WAIT_TIMER_EXPIRY (R123): after every offer of its frame event, so that a waiter whose timer expires when a head
would be granted to it is granted. This row comes after the whole work of the frame event; the act waitExpiry gives the
earlier places, ahead of a going on or of the Report Sender's choice (assumption 14). -/
def execWaitTimerExpiry (slot : Nat) (s : State) : Host.Outcome State Fault Refusal :=
  .next ((s.settleEndings.dueOrder .plain).dueWait slot)

/-- PHRASE_COMPLETE (R117). -/
def execPhraseComplete (h : Nat) (s : State) : Host.Outcome State Fault Refusal := .next (s.duePhrase h)

/-- LOOP_CYCLES_COMPLETE (R118). -/
def execLoopCyclesComplete (h : Nat) (s : State) : Host.Outcome State Fault Refusal := .next (s.dueLoop h)

/-- VOICE_TIMER_EXPIRY (R133). -/
def execVoiceTimerExpiry (c : Nat) (s : State) : Host.Outcome State Fault Refusal := .next (s.dueVoice c)

/-- CAPTURE_FULL (R135). -/
def execCaptureFull (c : Nat) (s : State) : Host.Outcome State Fault Refusal := .next (s.dueFull c)

/-- CAPTURE_SILENCE (R135). -/
def execCaptureSilence (c : Nat) (s : State) : Host.Outcome State Fault Refusal := .next (s.dueSilence c)

/-- REPORT_BEGIN (R156, R157): the choice of the frame event that is due, taken ahead of its other acts. Where none is due
there is no choice (assumption 15). -/
def execReportBegin (s : State) : Host.Outcome State Fault Refusal :=
  let t := s.settle
  .next (if t.frameDue && (t.mayBegin && t.anyMapped) then t.beginReport else t)

/-- REPORT_COMPLETE (R158). -/
def execReportComplete (s : State) : Host.Outcome State Fault Refusal := .next s.dueReport

end Sys2Proof.Machine
end

