-- ==== Sys2Proof/Machine/LaneCommands.lean ====
section
/-! DEFINITION. The meanings of the commands of the lanes, the clock and the resets: POWER_ON, the arrivals, the lane
events, FRAME_EVENT and RESTART. -/

namespace Sys2Proof.Machine

/-- POWER_ON (R18 and the power-on rules of every unit). -/
def execPowerOn (s : State) : Host.Outcome State Fault Refusal := .next s.powerOn

/-- HUNT_BYTE_ARRIVAL (R3): a byte on a lane in HUNT. -/
def execHuntByteArrival (p : Nat) (b : Byte) (s : State) : Host.Outcome State Fault Refusal :=
  if p < 4 then .next (s.settle.modifyLane p fun x => x.huntByte b) else .refused .illFormed

/-- LANE_FRAME_ARRIVAL (R1 to R7, R11, R12). An arrival on the control lane is a frame event; one still outstanding
from the arrival before is carried out first, and so is one whose control lane this arrival may displace
(assumption 27), and any frame event whose choice of a report has been made (assumption 15). -/
def execLaneFrameArrival (p : Nat) (f : LaneFrame) (late : Bool) (s : State) : Host.Outcome State Fault Refusal :=
  if p < 4 ∧ f.slots.length = 32 then
    let t := s.settle
    if t.frameBegun || t.succeeds p && t.rx.clockDue then
      match runFrame [] t with
      | .next u => .next (u.settle.arriveOn p f late)
      | .fault r => .fault r
      | .refused r => .refused r
    else .next (t.arriveOn p f late)
  else .refused .illFormed

/-- CHECK_COMPLETE (R5). -/
def execCheckComplete (p : Nat) (s : State) : Host.Outcome State Fault Refusal := .next (s.dueCheck p)

/-- LANE_LOSS (R6, R8, R14, R15). -/
def execLaneLoss (p : Nat) (o : LossOrder) (s : State) : Host.Outcome State Fault Refusal := .next (s.dueLoss o p)

/-- MISMATCH_LANE_LOSS (R7, R8, R14, R15). -/
def execMismatchLaneLoss (p : Nat) (o : LossOrder) (s : State) : Host.Outcome State Fault Refusal :=
  .next (s.dueMismatch o p)

/-- FRAME_EVENT (R11): where a frame event can occur, the work of every unit at it; otherwise none occurs
(assumption 28). -/
def execFrameEvent (schedule : List Act) (s : State) : Host.Outcome State Fault Refusal :=
  s.dueFrame schedule

/-- RESTART (R17), once the qualification count has reached 1600. -/
def execRestart (s : State) : Host.Outcome State Fault Refusal :=
  .next (if s.restartDue then s.settleEndings.restart else s)

end Sys2Proof.Machine
end

