-- ==== Sys2Proof/Machine/OrderCommands.lean ====
section
/-! DEFINITION. The meanings of the orders and queries. An order commanded is the taking of a message at the latest
frame event, after that frame event's work: the endings of that work stand first, and where the message stands
completed by the parser it is that message that is taken (assumption 7). -/

namespace Sys2Proof.Machine

/-- The state an order with body `body` is taken in (R149). It comes after the endings of its frame event, an expiry of a
gather or linger timer among them (R116 allows either; the act takeOrder gives the other: assumption 7). -/
def State.beforeOrder (s : State) (body : List Byte) : State :=
  let t := s.settleEndings
  if t.orders.due = some body then { t with orders := { t.orders with due := none } } else t.dueOrder .plain

/-- The message with body `body` is taken by `take`, behind a frame event that is under way (R149, R156; assumptions 7
and 15). -/
def State.takeMessage (s : State) (body : List Byte) (take : State → State) : Host.Outcome State Fault Refusal :=
  s.afterBegun fun t => .next (take (t.beforeOrder body))

/-- LANE_PLAN (R9, R10). -/
def execLanePlan (ref : Byte) (args : List Byte) (o : LossOrder) (s : State) : Host.Outcome State Fault Refusal :=
  s.takeMessage (OrderCode.lanePlan :: ref :: args) (takeLanePlan ref args o)

/-- SET_SLOTS (R47, R48). -/
def execSetSlots (ref : Byte) (args : List Byte) (s : State) : Host.Outcome State Fault Refusal :=
  s.takeMessage (OrderCode.setSlots :: ref :: args) (takeSetSlots ref args)

/-- TONE (R53). -/
def execTone (ref : Byte) (args : List Byte) (s : State) : Host.Outcome State Fault Refusal :=
  s.takeMessage (OrderCode.tone :: ref :: args) (takeTone ref args)

/-- CADENCE (R57). -/
def execCadence (ref : Byte) (args : List Byte) (s : State) : Host.Outcome State Fault Refusal :=
  s.takeMessage (OrderCode.cadence :: ref :: args) (takeCadence ref args)

/-- TEMPLATE (R66, R67). -/
def execTemplate (ref : Byte) (args : List Byte) (s : State) : Host.Outcome State Fault Refusal :=
  s.takeMessage (OrderCode.template :: ref :: args) (takeTemplate ref args)

/-- PLAY (R70 to R73). -/
def execPlay (ref : Byte) (args : List Byte) (s : State) : Host.Outcome State Fault Refusal :=
  s.takeMessage (OrderCode.play :: ref :: args) (takePlay ref args)

/-- STOP (R86). -/
def execStop (ref : Byte) (args : List Byte) (s : State) : Host.Outcome State Fault Refusal :=
  s.takeMessage (OrderCode.stop :: ref :: args) (takeStop ref args)

/-- WINDOW_MAP (R93, R94). -/
def execWindowMap (ref : Byte) (args : List Byte) (s : State) : Host.Outcome State Fault Refusal :=
  s.takeMessage (OrderCode.windowMap :: ref :: args) (takeWindowMap ref args)

/-- PHRASE (R97, R98). -/
def execPhrase (ref : Byte) (args : List Byte) (s : State) : Host.Outcome State Fault Refusal :=
  s.takeMessage (OrderCode.phrase :: ref :: args) (takePhrase ref args)

/-- DIRECTORY_CHECK (R100). -/
def execDirectoryCheck (ref : Byte) (args : List Byte) (s : State) : Host.Outcome State Fault Refusal :=
  s.takeMessage (OrderCode.directoryCheck :: ref :: args) (takeDirectoryCheck ref args)

/-- HEAD_PLAN (R109). -/
def execHeadPlan (ref : Byte) (args : List Byte) (s : State) : Host.Outcome State Fault Refusal :=
  s.takeMessage (OrderCode.headPlan :: ref :: args) (takeHeadPlan ref args)

/-- CAPTURE_START (R131, R132). -/
def execCaptureStart (ref : Byte) (args : List Byte) (s : State) : Host.Outcome State Fault Refusal :=
  s.takeMessage (OrderCode.captureStart :: ref :: args) (takeCaptureStart ref args)

/-- CAPTURE_STOP (R137). -/
def execCaptureStop (ref : Byte) (args : List Byte) (s : State) : Host.Outcome State Fault Refusal :=
  s.takeMessage (OrderCode.captureStop :: ref :: args) (takeCaptureStop ref args)

/-- QUERY_SLOT (R50, R90). -/
def execQuerySlot (ref : Byte) (args : List Byte) (s : State) : Host.Outcome State Fault Refusal :=
  s.takeMessage (OrderCode.query :: ref :: 0 :: args) (takeQuery 0 ref args)

/-- QUERY_HEAD (R128). -/
def execQueryHead (ref : Byte) (args : List Byte) (s : State) : Host.Outcome State Fault Refusal :=
  s.takeMessage (OrderCode.query :: ref :: 1 :: args) (takeQuery 1 ref args)

/-- QUERY_CAPTURE (R140). -/
def execQueryCapture (ref : Byte) (args : List Byte) (s : State) : Host.Outcome State Fault Refusal :=
  s.takeMessage (OrderCode.query :: ref :: 2 :: args) (takeQuery 2 ref args)

/-- QUERY_TONE (R63). -/
def execQueryTone (ref : Byte) (args : List Byte) (s : State) : Host.Outcome State Fault Refusal :=
  s.takeMessage (OrderCode.query :: ref :: 3 :: args) (takeQuery 3 ref args)

/-- QUERY_PHRASE (R105). -/
def execQueryPhrase (ref : Byte) (args : List Byte) (s : State) : Host.Outcome State Fault Refusal :=
  s.takeMessage (OrderCode.query :: ref :: 4 :: args) (takeQuery 4 ref args)

/-- QUERY_SUMMARY (R152, R161). -/
def execQuerySummary (ref : Byte) (args : List Byte) (s : State) : Host.Outcome State Fault Refusal :=
  s.takeMessage (OrderCode.query :: ref :: 5 :: args) (takeQuery 5 ref args)

/-- UNKNOWN_ORDER (R149). -/
def execUnknownOrder (code ref : Byte) (args : List Byte) (s : State) : Host.Outcome State Fault Refusal :=
  if OrderCode.all.contains code then .refused .illFormed
  else s.takeMessage (code :: ref :: args) (takeUnknown code ref)

end Sys2Proof.Machine
end

