-- ==== Sys2Proof/Machine/Dispatch.lean ====
section
/-! DEFINITION. The dispatch: one arm for each command. -/

namespace Sys2Proof.Machine

/-- The effect of a command on everything but the queue of commands. -/
def exec (i : Instr) (s : State) : Host.Outcome State Fault Refusal :=
  match i with
  | .powerOn => Sys2Proof.Machine.execPowerOn s
  | .huntByteArrival p b => Sys2Proof.Machine.execHuntByteArrival p b s
  | .laneFrameArrival p f late => Sys2Proof.Machine.execLaneFrameArrival p f late s
  | .checkComplete p => Sys2Proof.Machine.execCheckComplete p s
  | .laneLoss p o => Sys2Proof.Machine.execLaneLoss p o s
  | .mismatchLaneLoss p o => Sys2Proof.Machine.execMismatchLaneLoss p o s
  | .frameEvent schedule => Sys2Proof.Machine.execFrameEvent schedule s
  | .timedStepEnd slot => Sys2Proof.Machine.execTimedStepEnd slot s
  | .gatherTimerExpiry h => Sys2Proof.Machine.execGatherTimerExpiry h s
  | .lingerTimerExpiry h => Sys2Proof.Machine.execLingerTimerExpiry h s
  | .waitTimerExpiry slot => Sys2Proof.Machine.execWaitTimerExpiry slot s
  | .phraseComplete h => Sys2Proof.Machine.execPhraseComplete h s
  | .loopCyclesComplete h => Sys2Proof.Machine.execLoopCyclesComplete h s
  | .voiceTimerExpiry c => Sys2Proof.Machine.execVoiceTimerExpiry c s
  | .captureFull c => Sys2Proof.Machine.execCaptureFull c s
  | .captureSilence c => Sys2Proof.Machine.execCaptureSilence c s
  | .restart => Sys2Proof.Machine.execRestart s
  | .lanePlan ref args o => Sys2Proof.Machine.execLanePlan ref args o s
  | .setSlots ref args => Sys2Proof.Machine.execSetSlots ref args s
  | .tone ref args => Sys2Proof.Machine.execTone ref args s
  | .cadence ref args => Sys2Proof.Machine.execCadence ref args s
  | .template ref args => Sys2Proof.Machine.execTemplate ref args s
  | .play ref args => Sys2Proof.Machine.execPlay ref args s
  | .stop ref args => Sys2Proof.Machine.execStop ref args s
  | .windowMap ref args => Sys2Proof.Machine.execWindowMap ref args s
  | .phrase ref args => Sys2Proof.Machine.execPhrase ref args s
  | .directoryCheck ref args => Sys2Proof.Machine.execDirectoryCheck ref args s
  | .headPlan ref args => Sys2Proof.Machine.execHeadPlan ref args s
  | .captureStart ref args => Sys2Proof.Machine.execCaptureStart ref args s
  | .captureStop ref args => Sys2Proof.Machine.execCaptureStop ref args s
  | .querySlot ref args => Sys2Proof.Machine.execQuerySlot ref args s
  | .queryHead ref args => Sys2Proof.Machine.execQueryHead ref args s
  | .queryCapture ref args => Sys2Proof.Machine.execQueryCapture ref args s
  | .queryTone ref args => Sys2Proof.Machine.execQueryTone ref args s
  | .queryPhrase ref args => Sys2Proof.Machine.execQueryPhrase ref args s
  | .querySummary ref args => Sys2Proof.Machine.execQuerySummary ref args s
  | .unknownOrder code ref args => Sys2Proof.Machine.execUnknownOrder code ref args s
  | .reportBegin => Sys2Proof.Machine.execReportBegin s
  | .reportComplete => Sys2Proof.Machine.execReportComplete s

end Sys2Proof.Machine
end

