-- ==== Sys2Proof/Safety.lean ====
section
/-! DEFINITION. What counts as a safe state of the inserter, in the terms the statements use: that nothing stands due,
and the laws that the spec states of the whole machine. -/

namespace Sys2Proof.Machine

/-! ### Nothing stands due -/

/-- No lane event of the latest arrival is outstanding (R5 to R7). -/
def State.lanesQuiet (s : State) : Bool :=
  (List.range 4).all fun p => !s.checkDue p && (!s.lossDue p && !s.mismatchDue p)

/-- No timer of a head has run out (R115, R120). -/
def State.timersQuiet (s : State) : Bool := (List.range 24).all fun h => !s.gatherDue h && !s.lingerDue h

/-- No ending of the latest frame event is outstanding (R77, R115, R117, R118, R120, R133, R135). -/
def State.endingsQuiet (s : State) : Bool :=
  s.lanesQuiet && ((List.range 128).all (fun k => !s.timedEndDue k)
    && ((List.range 24).all (fun h => !s.phraseDue h && (s.finishedOn h).isEmpty)
    && ((List.range 2).all (fun c => !s.voiceDue c && (!s.silenceDue c && !s.fullDue c)) && s.timersQuiet)))

/-- No wait timer has run out (R123). -/
def State.waitsQuiet (s : State) : Bool := s.pool.queue.all fun w => w.timer != 0

/-- Every ending has been carried out and no completed message waits to be taken. -/
def State.worked (s : State) : Bool := s.endingsQuiet && s.orders.due.isNone

/-- An order commanded in such a state is taken in it as it stands: every ending carried out, no completed message waiting,
and no frame event under way. -/
def State.ready (s : State) : Bool := s.worked && !s.frameBegun

/-- Nothing at all stands due but, it may be, a frame event. -/
def State.quiet (s : State) : Bool :=
  s.worked && (s.waitsQuiet && (!s.restartDue && !s.reportDue))

/-! ### The laws -/

/-- The store is in its canonical form. -/
def State.storeLaw (s : State) : Prop := Memory.wf s.su.store = true

/-- R8: no two ALIGNED physical lanes hold the same logical identity, and every ALIGNED lane's identity is below the
width. -/
def State.laneLaw (s : State) : Prop :=
  (∀ p < 4, ∀ x, s.lane p = some x → x.align = .aligned → ∃ l, x.identity = some l ∧ l < s.rx.width) ∧
  (∀ p < 4, ∀ q < 4, ∀ x y, s.lane p = some x → s.lane q = some y → x.align = .aligned → y.align = .aligned →
    x.identity = y.identity → p = q)

/-- R71: the nonzero tags of live contexts are pairwise distinct. -/
def State.tagLaw (s : State) : Prop :=
  ∀ j < 128, ∀ k < 128, ∀ x y, s.ctx j = some x → s.ctx k = some y → x.tag = y.tag → x.tag ≠ none → j = k

/-- R99: while the phrase gate is not OPEN, every head is FREE and the wait queue is empty. -/
def State.gateLaw (s : State) : Prop :=
  s.su.gate ≠ .isOpen → (∀ x ∈ s.pool.heads, x.run = none) ∧ s.pool.queue = []

/-- R125: the urgent queue holds at most one SHORTAGE notice, and the latest SHORTAGE notice sent or waiting to be
sent is BEGIN exactly when the wait queue is non-empty. A notice that waits is the opposite of the one last sent. -/
def State.shortageLaw (s : State) : Prop :=
  s.sender.urgent.count .shortageBegin + s.sender.urgent.count .shortageEnd ≤ 1 ∧
  (s.shortageMark = true ↔ s.pool.queue ≠ []) ∧
  (.shortageBegin ∈ s.sender.urgent → s.pool.sentBegin = false) ∧
  (.shortageEnd ∈ s.sender.urgent → s.pool.sentBegin = true)

/-- R153: the ordinary queue holds up to 64 notices and the drop count is at most 255. -/
def State.reportLaw (s : State) : Prop := s.sender.ordinary.length ≤ 64 ∧ s.sender.drops ≤ 255

/-! ### Terms the statements use -/

/-- The parser has dealt with the bytes one after another, none of them suspect (R143 to R145). -/
def State.hear (s : State) (bytes : List Byte) : State := bytes.foldl (fun s b => s.parseByte b false) s

/-- A lane as a return to HUNT leaves it, with the slip count it had (R6, R10). -/
def huntingLane (slips : Nat) : Lane :=
  { align := .hunt, search := 0, expected := none, identity := none, checks := 0, losses := 0, mismatches := 0,
    store := none, last := none, slips, late := false }

/-- A step of a valid template at its index: every number in its range, a REPEAT's target before it (R65, R66). -/
def stepInRange (i : Nat) : Step → Prop
  | .tone tone cadence duration => tone ≤ 31 ∧ cadence ≤ 15 ∧ duration ≤ 65535
  | .silence duration => 1 ≤ duration ∧ duration ≤ 65535
  | .phrase phrase => phrase ≤ 511
  | .loop phrase cycles => phrase ≤ 511 ∧ cycles ≤ 255
  | .digits base count => base ≤ 511 ∧ count ≤ 12
  | .rep target times => target < i ∧ times ≤ 255

/-- The four bytes of a template step spell the step (section 12.3): the kind in the first byte's low four bits, a TONE
step's cadence in its high four, the arguments least significant byte first. -/
def stepSpelled (kind b1 b2 b3 : Nat) : Step → Prop
  | .tone tone cadence duration => kind = 1 + 16 * cadence ∧ tone = b1 ∧ duration = b2 + 256 * b3
  | .silence duration => kind = 2 ∧ duration = b2 + 256 * b3
  | .phrase phrase => kind = 3 ∧ phrase = b1 + 256 * b2
  | .loop phrase cycles => kind = 4 ∧ phrase = b1 + 256 * b2 ∧ cycles = b3
  | .digits base count => kind = 5 ∧ base = b1 + 256 * b2 ∧ count = b3
  | .rep target times => kind = 6 ∧ target = b1 ∧ times = b3

/-- The END notices of the tagged programmes on logical lane `l`, in slot order (R85, R88). -/
def State.laneEnds (s : State) (l : Nat) : List Notice :=
  (List.range 32).flatMap fun n => match s.ctx (32 * l + n) with
    | some c => (match c.tag with | some tag => [.ended (32 * l + n) tag .laneLost c.skipped] | none => [])
    | none => []

/-- The CAPTURE END notices of the channels whose source slot lies on logical lane `l`, in the loss order's order of
channels (R138; log 6). -/
def State.laneAborts (s : State) (o : LossOrder) (l : Nat) : List Notice :=
  (if o.channelOneFirst then [1, 0] else [0, 1]).flatMap fun c => match s.capture c with
    | some x => if x.slot / 32 = l then [.captureEnd c x.phrase .laneLost x.written x.suspects] else []
    | none => []

/-- The ordinary notices of the loss of logical lane `l`, in the loss order's order (R88, R138; section 11.6; log 6). -/
def State.lossNotices (s : State) (o : LossOrder) (l : Nat) : List Notice :=
  if o.capturesFirst then s.laneAborts o l ++ s.laneEnds l else s.laneEnds l ++ s.laneAborts o l

/-- A notice with the skipped count of an END notice left out. -/
def Notice.unskipped : Notice → Notice
  | .ended slot tag cause _ => .ended slot tag cause 0
  | n => n

/-- Window `k` of a WINDOW MAP body passes R93: its attribute, base and size. -/
def windowInRange (attr base size : Nat) : Prop :=
  attr = 0 ∨ ((attr = 1 ∨ attr = 2) ∧ base ≤ 4095 ∧ 1 ≤ size ∧ size ≤ 4096 ∧ base + size ≤ 4096)

/-- What the taking of a PLAY order puts into a context before step 0 begins (R72). -/
def freshContext (template : Nat) (mode : Insertion) (counters params : List Nat) (tag : Option Nat) : Ctx :=
  { template, mode, step := 0, state := .pending, remaining := none, position := 0, counters, params, cursor := 0
    digitsLeft := 0, request := none, head := none, mark := 0, cycles := 0, finished := false, tag, skipped := 0
    fellBack := false, todo := false, news := false, hears := false }

/-- Every context but that of `slot` is as it was. -/
def sameContextsBut (slot : Nat) (s t : State) : Prop := ∀ k, k ≠ slot → t.ctx k = s.ctx k

/-- Everything is as it was but contexts, heads, the wait queue and the Report Sender's queues: lanes, outbound
frames, slot table, Tone Bank, templates, store unit with every byte of the store, head plan, captures, parser, report
in transmission, queue of commands. -/
def sameBackdrop (s t : State) : Prop :=
  t.rx = s.rx ∧ t.tx = s.tx ∧ t.slots = s.slots ∧ t.bank = s.bank ∧ t.seq.templates = s.seq.templates ∧ t.su = s.su ∧
  t.pool.gatherWindow = s.pool.gatherWindow ∧ t.pool.lingerTime = s.pool.lingerTime ∧
  t.pool.waitLimit = s.pool.waitLimit ∧ t.pool.sentBegin = s.pool.sentBegin ∧ t.caps = s.caps ∧
  t.orders = s.orders ∧ t.sender.transmission = s.sender.transmission ∧ t.sender.hold = s.sender.hold ∧
  t.pending = s.pending

/-- A framing byte is correct against a lane's expected kind and established identity (R2). -/
def framingCorrect (x : Lane) (b : Byte) : Bool :=
  match x.expected, x.identity with
  | some .b, none => 0xC0 ≤ b.toNat && b.toNat ≤ 0xC3
  | some .b, some l => l < 4 && b.toNat == 0xC0 + l
  | _, _ => b == 0x2D

/-- A framing byte is an identity mismatch (R2): a B frame names another lane than the established one. -/
def framingMismatch (x : Lane) (b : Byte) : Bool :=
  x.expected == some .b && (x.identity.isSome && (0xC0 ≤ b.toNat && (b.toNat ≤ 0xC3 && !framingCorrect x b)))

/-- A lane record with the expected kind flipped (R1). -/
def flipped (x : Lane) : Lane :=
  { x with expected := match x.expected with | some .a => some .b | some .b => some .a | none => none }

/-- The outbound byte of a slot whose programme has insertion mode `m` and output `y`: R41 for REPLACE, R32 and R42 for
OVERLAY over inbound byte `b` at pad `pad`. -/
def insertedByte (m : Insertion) (b : Byte) (pad : Nat) (y : Int) : Byte :=
  match m with
  | .replace => encodeCode y
  | .overlay => encodeCode (saturate (roundDiv (decodeCode b * (8 - pad : Int)) 8 + y))

/-- The frame an ALIGNED lane contributes to a frame event: the one in its store, else the previous one again (R12). -/
def contributes (x : Lane) (held : Held) : Prop := x.store = some held ∨ (x.store = none ∧ x.last = some held)

/-- Every head and channel that is active stands at a place inside the store (R91). -/
def State.inStore (s : State) : Prop :=
  (∀ h r, s.headRun h = some r → r.start + r.offset < 16777216) ∧
  (∀ c x, s.capture c = some x → x.start + x.written < 16777216)

/-- The sample of tone entry `tone` while the gate of cadence `cadence` is on at `position`, else 0 (R29, R56). -/
def State.gatedTone (s : State) (tone cadence position : Nat) : Int :=
  if gateOn (s.cadence cadence) position then (s.bank.tones.getD tone ⟨.silent, .silent⟩).sample else 0

/-- The phrase sample of the byte head `h` reads at the coming frame event: P where it is RUNNING or LINGER, else 0
(R107, R30). -/
def State.headOutput (s : State) (h : Nat) : Int :=
  match s.headRun h with
  | some r =>
    (match r.phase with
     | .running | .linger _ => phraseSample (storeRead s.su.store (r.start + r.offset)) r.trim
     | .gathering _ => 0)
  | none => 0

/-- The programme output Y of a context that is not PENDING (R33, R69): the step's gated tone, the fallback, or the head's
phrase sample. -/
def State.outputOf (s : State) (c : Ctx) : Int :=
  match c.state with
  | .timed => (match s.stepOf c with | some (.tone tone cadence _) => s.gatedTone tone cadence c.position | _ => 0)
  | .waiting => (match s.template c.template with | some t => s.gatedTone t.tone t.cadence c.position | none => 0)
  | .playing => (match c.head with | some h => if h < 24 then s.headOutput h else 0 | none => 0)
  | .gatherWait | .pending => 0

/-- The cadence under which a context gives output (R59, R60): its TONE step's, or its fallback's while WAITING. -/
def State.cadenceOf (s : State) (c : Ctx) : Option (List (Nat × Nat)) :=
  match c.state with
  | .timed => (match s.stepOf c with | some (.tone _ cadence _) => some (s.cadence cadence) | _ => none)
  | .waiting => (s.template c.template).map fun t => s.cadence t.cadence
  | .playing | .gatherWait | .pending => none

/-- The going on of the context of `slot` in its turn at a frame event: one that is PENDING goes on (R75, R76). -/
def State.goesOn (s : State) (slot : Nat) : State :=
  match s.ctx slot with
  | none => s
  | some c =>
    let t : State := { s with seq := { s.seq with contexts := s.seq.contexts.set slot (some { c with todo := false }) } }
    if c.state = .pending then t.goOnSlot true slot else t

/-- The turn of the context of `slot` at a frame event: its going on, and the counting of the step state it then holds
(R75, R77, R60). One that has had news in the course of the frame event does neither (R108). -/
def State.turn (s : State) (slot : Nat) : State :=
  match s.ctx slot with
  | none => s
  | some c =>
    if c.news then
      { s with seq := { s.seq with contexts := s.seq.contexts.set slot (some { c with todo := false }) } }
    else
      let t := s.goesOn slot
      match t.ctx slot with
      | none => t
      | some d => { t with seq := { t.seq with contexts := t.seq.contexts.set slot (some { d with
          remaining := if d.state = .timed then d.remaining.map fun n => n - 1 else d.remaining
          position := match t.cadenceOf d with
            | some pairs => advancePosition pairs d.position
            | none => d.position }) } }

/-- The frame event has arrived and the contexts of the first `n` slots have had their turns, in ascending order (R75). -/
def State.upTo (s : State) (n : Nat) : State := (List.range n).foldl State.turn s.arriveFrame

/-- The record that the output of `slot` is formed from: the one its going on leaves, before the counting; that of the
arrival where it has had news (R75, R108). -/
def State.voiceOf (s : State) (slot : Nat) : Option Ctx :=
  if ((s.upTo slot).ctx slot).any (fun c => !c.news) then ((s.upTo slot).goesOn slot).ctx slot
  else s.arriveFrame.ctx slot

/-- The programme output Y of `slot` at the frame event that leads from `s` to `t` (R69): a PLAYING context that hears its
head gives the sample the head has handed on at it, 0 where it has read nothing. -/
def State.soundOf (s t : State) (slot : Nat) : Int :=
  match s.voiceOf slot with
  | none => 0
  | some d =>
    if d.state = .playing then
      (match d.head with
       | some h => if d.hears then ((t.head h).sample).getD 0 else 0
       | none => 0)
    else s.outputOf d

/-- Head `h` holds `r` with a byte to read at the frame event in hand: it was RUNNING or LINGER at the arrival and has not
been started since, nor has it read (R107). -/
def HeadRun.toRead (r : HeadRun) : Prop := r.arrived ≠ none ∧ r.hasRead = false

/-- The offset after the next byte of a head (R117, R118). -/
def HeadRun.offsetAfter (r : HeadRun) : Nat := if r.mode = .cyclic ∧ r.length ≤ r.offset + 1 then 0 else r.offset + 1

/-- The report the sender chooses in `s` (R156, R157): its body, the queues it leaves behind, and whether the SHORTAGE notice
last sent is then BEGIN. The oldest urgent notice; else the oldest ordinary one, an END notice with those directly behind
it, eight at most. -/
def State.chooses (s : State) (body : List Byte) (urgent ordinary : List Notice) (sent : Bool) : Prop :=
  let alone (n : Notice) : List Byte :=
    n.kindByte :: BitVec.ofNat 8 s.sender.drops :: n.content s.pool.queue.length
  (∃ n, s.sender.urgent = n :: urgent ∧ n.isEnd = false ∧ ordinary = s.sender.ordinary ∧ body = alone n ∧
    sent = (if n = .shortageBegin then true else if n = .shortageEnd then false else s.pool.sentBegin)) ∨
  s.sender.urgent = [] ∧ urgent = [] ∧ sent = s.pool.sentBegin ∧
    ((∃ n, s.sender.ordinary = n :: ordinary ∧ n.isEnd = false ∧ body = alone n) ∨
      ∃ run, s.sender.ordinary = run ++ ordinary ∧ run ≠ [] ∧ run.length ≤ 8 ∧ (∀ n ∈ run, n.isEnd = true) ∧
        (run.length = 8 ∨ ∀ n, ordinary.head? = some n → n.isEnd = false) ∧
        body = 0x94 :: BitVec.ofNat 8 s.sender.drops :: BitVec.ofNat 8 run.length :: run.flatMap fun
          | .ended slot tag cause skipped => le8 slot ++ le8 tag ++ le8 cause.code ++ le8 skipped
          | .restarted _ | .lane _ _ _ | .shortageBegin | .shortageEnd | .refused _ _ _ | .status _ _ _ _
          | .checked _ _ _ _ | .captureEnd _ _ _ _ _ => [])

end Sys2Proof.Machine
end

