-- ==== Sys2Proof/WellFormed.lean ====
section
/-! DEFINITION. Which commands can be presented: the operand ranges that the wires and the message frame impose
(sections 1.1 and 9.1) and the unit numbers that exist. -/

namespace Sys2Proof

/-- A lane frame carries 32 traffic slots (section 1.1). -/
def LaneFrame.wf (f : LaneFrame) : Bool := f.slots.length == 32

/-- The unit an act names exists. -/
def Act.wf : Act → Bool
  | .contexts below => below ≤ 128
  | .headWork h | .gatherExpiry h | .lingerExpiry h | .phraseComplete h | .loopComplete h => h < 24
  | .capture c | .voiceExpiry c | .captureFull c | .captureSilence c => c < 2
  | .timedStepEnd slot | .waitExpiry slot => slot < 128
  | .laneLoss p f _ => p < 4 && f.wf
  | .qualify | .countWaits | .parse | .takeOrder _ | .offerByte | .restart => true

/-- An order's body has at most 72 bytes (R141), so at most 70 after its reference. -/
def argsWf (args : List Byte) : Bool := args.length ≤ 70

/-- The same for a QUERY, whose subject byte stands before `args`. -/
def queryArgsWf (args : List Byte) : Bool := args.length ≤ 69

/-- The operands of a command are ones that can be presented. -/
def Instr.wf : Instr → Bool
  | .powerOn | .restart | .reportBegin | .reportComplete => true
  | .huntByteArrival p _ | .checkComplete p | .laneLoss p _ | .mismatchLaneLoss p _ => p < 4
  | .laneFrameArrival p f _ => p < 4 && f.wf
  | .frameEvent schedule => schedule.all Act.wf
  | .timedStepEnd slot | .waitTimerExpiry slot => slot < 128
  | .gatherTimerExpiry h | .lingerTimerExpiry h | .phraseComplete h | .loopCyclesComplete h => h < 24
  | .voiceTimerExpiry c | .captureFull c | .captureSilence c => c < 2
  | .lanePlan _ args _ | .setSlots _ args | .tone _ args | .cadence _ args | .template _ args | .play _ args
  | .stop _ args | .windowMap _ args | .phrase _ args | .directoryCheck _ args | .headPlan _ args
  | .captureStart _ args | .captureStop _ args => argsWf args
  | .querySlot _ args | .queryHead _ args | .queryCapture _ args | .queryTone _ args | .queryPhrase _ args
  | .querySummary _ args => queryArgsWf args
  | .unknownOrder code _ args => argsWf args && !(OrderCode.all.contains code)

end Sys2Proof
end

