-- ==== Sys2Proof/Certificates/Slice0/Obligations.lean ====
section
/-! DEFINITION. The statements for the provers. Rules R<n> are those of spec/; "log <n>" is notes/assumptions/<n>.md. An
order commanded in a state that is `ready` is taken in that state as it stands (log 7). -/

open Sys2Proof Sys2Proof.Machine

/-! ### The machine as a whole -/

/-- A step is the front command's meaning on the queue's rest; with no command waiting it carries out what stands due
(log 4: the model's choice). -/
def Obligations.StepRunsFrontCommand : Prop :=
  ∀ (i : Instr) (rest : List Instr) (s : State),
    step { s with pending := i :: rest } = exec i { s with pending := rest } ∧
    step { s with pending := [] } = .next ({ s with pending := [] } : State).settle

/-- No command touches the queue of commands. -/
def Obligations.ExecLeavesQueue : Prop :=
  ∀ (i : Instr) (s t : State), exec i s = .next t → t.pending = s.pending

/-- Only the frame event, and the arrival or order that carries an outstanding one out (log 27; log 15, where it is under
way), can change a byte of the store. -/
def Obligations.OnlyFrameEventsWriteTheStore : Prop :=
  ∀ (i : Instr) (s t : State), exec i s = .next t →
    (∀ schedule, i ≠ .frameEvent schedule) →
    (∀ p f late, i = .laneFrameArrival p f late → s.rx.clockDue = false ∧ s.quiet = true) →
    ((encodeBody i).isSome = true → s.frameBegun = false) →
    ∀ a, storeRead t.su.store a = storeRead s.su.store a

/-- POWER_ON puts every unit at its power-on value and leaves the store (R18, R35, R51, R55, R89, R91, R92, R95, R99,
R106, R109, R121, R129, R142, R153, R159). -/
def Obligations.PowerOnSetsEveryUnit : Prop :=
  ∀ s : State, ∃ t, exec .powerOn s = .next t ∧
    t.rx.lanes = List.replicate 4 (huntingLane 0) ∧ (∀ l, t.map l = none) ∧ t.control = none ∧
    t.rx.width = 4 ∧ t.rx.restartSet = 1#4 ∧ t.rx.qualCount = 0 ∧ t.rx.armed = true ∧
    t.tx.next = .a ∧
    t.slots = List.replicate 128 ⟨.through, 0⟩ ∧
    t.bank.tones = List.replicate 32 ⟨⟨0, 0, 0, 0⟩, ⟨0, 0, 0, 0⟩⟩ ∧ t.bank.cadences = List.replicate 16 [] ∧
    t.seq.templates = List.replicate 64 none ∧ t.seq.contexts = List.replicate 128 none ∧
    t.su.windows = List.replicate 8 ⟨.absent, 0, 0⟩ ∧ t.su.mapLoaded = false ∧
    t.su.directory = List.replicate 512 none ∧ t.su.gate = .closedBoth ∧ t.su.store = s.su.store ∧
    t.pool.heads = List.replicate 24 ⟨none, none⟩ ∧ t.pool.queue = [] ∧
    t.pool.gatherWindow = 2 ∧ t.pool.lingerTime = 50 ∧ t.pool.waitLimit = 30 ∧
    t.caps = [none, none] ∧ t.orders.parser = .hunt ∧
    t.sender.urgent = [.restarted false] ∧ t.sender.ordinary = [] ∧ t.sender.drops = 0 ∧
    t.sender.transmission = none ∧ t.pending = s.pending

/-- The state after reset satisfies every law the invariants keep. -/
def Obligations.ResetSatisfiesTheLaws : Prop :=
  State.reset.storeLaw ∧ State.reset.laneLaw ∧ State.reset.tagLaw ∧ State.reset.gateLaw ∧
  State.reset.shortageLaw ∧ State.reset.reportLaw

/-- Every step keeps the store in its canonical form. -/
def Obligations.StepKeepsStoreCanonical : Prop :=
  ∀ s t : State, s.storeLaw → step s = .next t → t.storeLaw

/-- Every step keeps R8's law of the lane map. -/
def Obligations.StepKeepsLaneLaw : Prop :=
  ∀ s t : State, s.laneLaw → step s = .next t → t.laneLaw

/-- Every step keeps R71's law: the nonzero tags of live contexts are pairwise distinct. -/
def Obligations.StepKeepsTagsDistinct : Prop :=
  ∀ s t : State, s.tagLaw → step s = .next t → t.tagLaw

/-- Every step keeps R99's law: no head runs and no context waits while the gate is not OPEN. -/
def Obligations.StepKeepsGateLaw : Prop :=
  ∀ s t : State, s.gateLaw → step s = .next t → t.gateLaw

/-- Every step keeps R125's law: the processor's latest SHORTAGE news agrees with the wait queue. -/
def Obligations.StepKeepsShortageLaw : Prop :=
  ∀ s t : State, s.shortageLaw → step s = .next t → t.shortageLaw

/-- Every step keeps R153's bounds on the ordinary queue and the drop count. -/
def Obligations.StepKeepsReportBounds : Prop :=
  ∀ s t : State, s.reportLaw → step s = .next t → t.reportLaw

/-! ### The order channel -/

/-- A body read from its layout and written to it agree (section 12.2): every well-formed order and query, with every
byte of its body. -/
def Obligations.OrderBodiesRoundTrip : Prop :=
  (∀ (i : Instr) (body : List Byte) (o : LossOrder), i.wf = true → encodeBody i = some body →
    (∀ ref args p, i = .lanePlan ref args p → p = o) → decodeBody o body = some i) ∧
  (∀ (i : Instr) (body : List Byte) (o : LossOrder), decodeBody o body = some i → encodeBody i = some body)

/-- A whole message, start byte to check byte, leaves the parser in HUNT with its body complete, and nothing else
changed; length, body and check byte add up to a multiple of 256 (R141, R143 to R145). -/
def Obligations.ParserCompletesMessage : Prop :=
  ∀ (s : State) (body : List Byte), s.orders.parser = .hunt → 2 ≤ body.length → body.length ≤ 72 →
    s.hear (messageOf body) = { s with orders := { parser := .hunt, due := some body } } ∧
    (bodySum body + (checkByte body).toNat) % 256 = 0

/-- The message of an order, heard by the parser and taken, has the effect of the order's command. That an order commanded
is taken after the latest frame event's work and endings is the model's choice (log 7). -/
def Obligations.MessageIsItsCommand : Prop :=
  ∀ (i : Instr) (body : List Byte) (o : LossOrder) (s : State),
    i.wf = true → encodeBody i = some body → (∀ ref args p, i = .lanePlan ref args p → p = o) →
    s.ready = true → s.orders.parser = .hunt →
    exec i s = .next ((s.hear (messageOf body)).dueOrder o)

/-- What the parser does with each byte that ends a message in error (R144 to R146). -/
def Obligations.ParserRefusesGarbled : Prop :=
  ∀ (s : State) (b : Byte) (suspect : Bool),
    (s.orders.parser = .hunt → (suspect = true ∨ b ≠ 0xA5) → s.parseByte b suspect = s) ∧
    (s.orders.parser ≠ .hunt → suspect = true →
      s.parseByte b suspect = (s.setParser .hunt).queueOrdinary (.refused .garbled none 2)) ∧
    (s.orders.parser = .length → suspect = false → (b.toNat < 2 ∨ 72 < b.toNat) →
      s.parseByte b suspect = (s.setParser .hunt).queueOrdinary (.refused .garbled none 0)) ∧
    (∀ len bytes sum, s.orders.parser = .check len bytes sum → suspect = false → (sum + b.toNat) % 256 ≠ 0 →
      s.parseByte b suspect = (s.setParser .hunt).queueOrdinary (.refused .garbled none 1))

/-- A code that names no order is refused with UNKNOWN_ORDER; a QUERY with no subject or an unknown one is refused by its
length, else with BAD_PARAM (R149, R151, R152). The command with an order's own code stands for nothing (log 16). -/
def Obligations.UnknownOrdersAreRefused : Prop :=
  ∀ (s : State) (o : LossOrder) (code ref : Byte) (args : List Byte),
    (s.ready = true → code ∉ OrderCode.all →
      exec (.unknownOrder code ref args) s = .next (s.refuse .unknownOrder code ref)) ∧
    (code ∈ OrderCode.all → exec (.unknownOrder code ref args) s = .refused .illFormed) ∧
    (decodeQuery ref args = none → takeBody o (0x50 :: ref :: args) s =
      if args.length = 3 then s.refuse .badParam 0x50 ref else s.refuse .badLength 0x50 ref (args.length + 2))

/-! ### Arithmetic (spec/02_sample_coding_and_arithmetic.md) -/

/-- R22 and R23: decoding gives the magnitude by segment and step with the byte's sign, never 0, the middle of its band
of R23 in segments 1 to 7 and the upper end of its band of two in segment 0; encoding gives the band's segment and step,
truncated, with sign 1 below 0. -/
def Obligations.CodeBytesDecodeAndEncode : Prop :=
  (∀ sign < 2, ∀ e < 8, ∀ k < 16, decodeCode (BitVec.ofNat 8 (128 * sign + 16 * e + k)) =
    (if sign = 0 then 1 else -1) * ((if e = 0 then 2 * k + 1 else (16 + k) * 2 ^ e + 2 ^ (e - 1) : Nat) : Int)) ∧
  (∀ b : Byte, 1 ≤ (decodeCode b).natAbs ∧ (decodeCode b).natAbs ≤ 4032) ∧
  (∀ b : Byte, (decodeCode b).natAbs = 1 ↔ b = 0x00 ∨ b = 0x80) ∧
  (∀ b : Byte, (decodeCode b).natAbs = 4032 ↔ b = 0x7F ∨ b = 0xFF) ∧
  (∀ e k m : Nat, 1 ≤ e → e ≤ 7 → k < 16 → (16 + k) * 2 ^ e ≤ m → m < (17 + k) * 2 ^ e →
    encodeCode m = BitVec.ofNat 8 (16 * e + k) ∧ 2 * decodeCode (BitVec.ofNat 8 (16 * e + k)) = (33 + 2 * k) * 2 ^ e) ∧
  (∀ k m : Nat, k < 16 → (m = 2 * k ∨ m = 2 * k + 1) →
    encodeCode m = BitVec.ofNat 8 k ∧ decodeCode (BitVec.ofNat 8 k) = 2 * k + 1) ∧
  ∀ v : Int,
    (min v.natAbs 4095 < 32 → encodeCode v =
      BitVec.ofNat 8 ((if v < 0 then 128 else 0) + min v.natAbs 4095 / 2)) ∧
    (∀ e, 1 ≤ e → e ≤ 7 → 2 ^ (e + 4) ≤ min v.natAbs 4095 → min v.natAbs 4095 < 2 ^ (e + 5) → encodeCode v =
      BitVec.ofNat 8 ((if v < 0 then 128 else 0) + 16 * e + (min v.natAbs 4095 - 2 ^ (e + 4)) / 2 ^ e))

/-- R24: decoding and encoding gives the byte back, so OVERLAY with pad 0 and Y of 0 does; encoding and decoding errs by
at most half a step, and a second pass adds nothing. -/
def Obligations.CodeBytesSurviveRecoding : Prop :=
  (∀ b : Byte, encodeCode (decodeCode b) = b) ∧ (∀ b : Byte, overlayByte b 0 0 = b) ∧
  (∀ v : Int, -4095 ≤ v → v ≤ 4095 →
    2 * (decodeCode (encodeCode v) - v).natAbs ≤ (if v.natAbs < 64 then 2 else 2 ^ (Nat.log2 v.natAbs - 4)) ∧
    encodeCode (decodeCode (encodeCode v)) = encodeCode v)

/-- R25: the rounded quotient is the nearest integer, the upper one at an exact half, and symmetric elsewhere. R26: the
sine table, every entry nearer than a half to 32767 × sin(2π i / 1024), its bounds, its symmetries and the entries the rule
names. R20, R28, R29, R30: saturation, the component value by phase and amplitude, the entry sample of two components, and
the phrase sample by trim. -/
def Obligations.RoundingAndSamples : Prop :=
  (∀ x d : Int, 0 < d → d % 2 = 0 →
    2 * x - d < 2 * d * roundDiv x d ∧ 2 * d * roundDiv x d ≤ 2 * x + d ∧
    ((2 * x - d) % (2 * d) ≠ 0 → roundDiv (-x) d = -roundDiv x d) ∧
    ((2 * x - d) % (2 * d) = 0 → roundDiv (-x) d = -roundDiv x d + 1)) ∧
  ((∀ i < 1024, |(sine i : ℝ) - 32767 * Real.sin (2 * Real.pi * i / 1024)| < 1 / 2) ∧
    (∀ i < 1024, -32767 ≤ sine i ∧ sine i ≤ 32767) ∧
    sine 0 = 0 ∧ sine 512 = 0 ∧ sine 256 = 32767 ∧ sine 768 = -32767 ∧ sine 54 = 10659 ∧ sine 108 = 20159 ∧
    (∀ i, 1 ≤ i → i ≤ 1023 → sine (1024 - i) = -sine i) ∧ ∀ i ≤ 511, sine (512 + i) = -sine i) ∧
  let clip (v : Int) : Int := max (-4095) (min 4095 v)
  let value (x : Oscillator) : Int := (sine (x.phase / 64) * x.amp + 16384) / 32768
  (∀ v, saturate v = clip v) ∧
  (∀ x : Oscillator, x.phase < 65536 → x.amp ≤ 4095 → (value x).natAbs ≤ 4095) ∧
  (∀ e : ToneEntry, e.sample = clip (value e.one + value e.two)) ∧
  (∀ (b : Byte) (trim : Nat), phraseSample b trim = clip ((decodeCode b * trim + 64) / 128)) ∧
  ∀ b : Byte, phraseSample b 128 = decodeCode b ∧ phraseSample b 0 = 0

/-! ### Tone Bank -/

/-- TONE (R27, R53): checks, clamped values, increments, phases at 0, nothing else. -/
def Obligations.ToneLoadsEntry : Prop :=
  ∀ (s : State) (ref : Byte) (args : List Byte), s.ready = true →
    let component (i : Nat) : Oscillator :=
      ⟨min (field16 args i) 40000, min (field16 args (i + 2)) 4095,
        (min (field16 args i) 40000 * 8192 + 5000) / 10000, 0⟩
    exec (.tone ref args) s = .next (
      if args.length ≠ 9 then s.refuse .badLength 0x03 ref (args.length + 2)
      else if 31 < field8 args 0 then s.refuse .badParam 0x03 ref
      else { s with bank := { s.bank with tones := s.bank.tones.set (field8 args 0) ⟨component 1, component 5⟩ } })

/-- CADENCE (R57, R58): checks in their order, the entry's pairs, nothing else. -/
def Obligations.CadenceLoadsEntry : Prop :=
  ∀ (s : State) (ref : Byte) (args : List Byte), s.ready = true →
    let pairs : List (Nat × Nat) :=
      (List.range (field8 args 1)).map fun k => (field8 args (2 + 2 * k), field8 args (3 + 2 * k))
    exec (.cadence ref args) s = .next (
      if args.length ≠ 10 then s.refuse .badLength 0x04 ref (args.length + 2)
      else if 15 < field8 args 0 then s.refuse .badParam 0x04 ref
      else if 4 < field8 args 1 then s.refuse .badParam 0x04 ref
      else if (List.range (field8 args 1)).any (fun k => field8 args (2 + 2 * k) == 0) then s.refuse .badParam 0x04 ref
      else if s.cadenceInUse (field8 args 0) then s.refuse .inUse 0x04 ref
      else { s with bank := { s.bank with cadences := s.bank.cadences.set (field8 args 0) pairs } }) ∧
    ∀ c, s.cadenceInUse c = true ↔ ∃ k < 128, ∃ x t, s.ctx k = some x ∧ s.template x.template = some t ∧
      (t.cadence = c ∨ ∃ tone duration, Step.tone tone c duration ∈ t.steps)

/-- The gate over a loaded cadence (R56): a position in the on part of a pair is on, in its off part off, the pairs one
after another; the period is the sum of the pairs, and the position wraps there (R55, R59). -/
def Obligations.CadenceGateFollowsPairs : Prop :=
  (∀ n, gateOn [] n = true ∧ advancePosition [] n = 0) ∧
  ∀ (before : List (Nat × Nat)) (on off : Nat) (after : List (Nat × Nat)) (i : Nat),
    (i < 80 * on → gateOn (before ++ (on, off) :: after) (cadencePeriod before + i) = true) ∧
    (80 * on ≤ i → i < 80 * on + 80 * off →
      gateOn (before ++ (on, off) :: after) (cadencePeriod before + i) = false) ∧
    cadencePeriod (before ++ (on, off) :: after) = cadencePeriod before + (80 * on + 80 * off) + cadencePeriod after ∧
    ∀ n, advancePosition ((on, off) :: after) n =
      if n + 1 < cadencePeriod ((on, off) :: after) then n + 1 else 0

/-! ### Slot action table -/

/-- SET SLOTS (R47, R48): checks in their order; the marked slots of the group take the base action and the clamped pad,
every other slot and everything else stays. -/
def Obligations.SetSlotsWritesMarkedSlots : Prop :=
  ∀ (s : State) (ref : Byte) (args : List Byte), s.ready = true →
    (args.length ≠ 4 → exec (.setSlots ref args) s = .next (s.refuse .badLength 0x02 ref (args.length + 2))) ∧
    (args.length = 4 → 15 < field8 args 0 → exec (.setSlots ref args) s = .next (s.refuse .badSlot 0x02 ref)) ∧
    (args.length = 4 → field8 args 0 ≤ 15 → 1 < field8 args 2 →
      exec (.setSlots ref args) s = .next (s.refuse .badParam 0x02 ref)) ∧
    (args.length = 4 → field8 args 0 ≤ 15 → field8 args 2 ≤ 1 →
      ∃ table, exec (.setSlots ref args) s = .next { s with slots := table } ∧ table.length = s.slots.length ∧
        ∀ k < s.slots.length, table[k]? =
          if k / 8 = field8 args 0 ∧ (field8 args 1).testBit (k % 8) = true then
            some ⟨if field8 args 2 = 0 then .through else .mute, min (field8 args 3) 7⟩
          else s.slots[k]?)

/-! ### Programme Sequencer -/

/-- TEMPLATE (R67): length, number, validation and in-use test in their order; the template replaced as a whole. -/
def Obligations.TemplateStoresWholeTemplate : Prop :=
  ∀ (s : State) (ref : Byte) (args : List Byte), s.ready = true →
    exec (.template ref args) s = .next (
      if ¬ (3 < args.length ∧ 6 + 4 * field8 args 3 ≤ 72 ∧ args.length = 4 + 4 * field8 args 3) then
        s.refuse .badLength 0x05 ref (args.length + 2)
      else if 63 < field8 args 0 then s.refuse .badParam 0x05 ref
      else match parseTemplate args with
        | .error i => s.refuse .badTemplate 0x05 ref i
        | .ok t =>
          if s.templateInUse (field8 args 0) then s.refuse .inUse 0x05 ref
          else { s with seq := { s.seq with templates := s.seq.templates.set (field8 args 0) (some t) } }) ∧
    ∀ n, s.templateInUse n = true ↔ ∃ k < 128, ∃ x, s.ctx k = some x ∧ x.template = n

/-- Validation (R66, R67, section 12.3): a template that passes has every number in range, as many steps as it declares
and at most four REPEAT steps, each step the one its four bytes spell; every template in range passes; the index a failure
names is 255 for the step count or the fallback, else that of the first faulty step. -/
def Obligations.ValidTemplatesAreInRange : Prop :=
  ∀ args : List Byte, args.length = 4 + 4 * field8 args 3 →
    (∀ t, parseTemplate args = .ok t →
      t.tone = field8 args 1 ∧ t.tone ≤ 31 ∧ t.cadence = field8 args 2 ∧ t.cadence ≤ 15 ∧
      t.steps.length = field8 args 3 ∧ 1 ≤ t.steps.length ∧ t.steps.length ≤ 16 ∧
      t.steps.countP Step.isRep ≤ 4 ∧ ∀ i st, t.steps[i]? = some st → stepInRange i st) ∧
    (∀ i, parseTemplate args = .error i → i = 255 ∨ i < field8 args 3) ∧
    let byte (i j : Nat) : Nat := field8 args (4 + 4 * i + j)
    let spells (i : Nat) (st : Step) : Prop := stepSpelled (byte i 0) (byte i 1) (byte i 2) (byte i 3) st
    let head : Prop := 1 ≤ field8 args 3 ∧ field8 args 3 ≤ 16 ∧ field8 args 1 ≤ 31 ∧ field8 args 2 ≤ 15
    let sound (i : Nat) : Prop := (∃ st, spells i st ∧ stepInRange i st) ∧
      (byte i 0 = 6 → ((List.range i).countP fun j => byte j 0 == 6) < 4)
    (¬ head → parseTemplate args = .error 255) ∧
    (head → (∀ i < field8 args 3, sound i) → ∃ t, parseTemplate args = .ok t ∧ t.tone = field8 args 1 ∧
      t.cadence = field8 args 2 ∧ t.steps.length = field8 args 3 ∧
      ∀ i < field8 args 3, ∃ st, t.steps[i]? = some st ∧ spells i st ∧ stepInRange i st) ∧
    (head → ∀ i < field8 args 3, (∀ j < i, sound j) → ¬ sound i → parseTemplate args = .error i)

/-- PLAY, the checks of R70 in the order of its table, the tag test of R71 among them: the first that fails gives the
refusal, and nothing else changes; where none fails there is no refusal. -/
def Obligations.PlayRefusalsInOrder : Prop :=
  ∀ (s : State) (ref : Byte) (args : List Byte), s.ready = true →
    (¬ (6 < args.length ∧ 9 + field8 args 6 ≤ 72 ∧ args.length = 7 + field8 args 6) →
      exec (.play ref args) s = .next (s.refuse .badLength 0x10 ref (args.length + 2))) ∧
    (6 < args.length → 9 + field8 args 6 ≤ 72 → args.length = 7 + field8 args 6 → ∀ cause : Cause,
      s.playRefusal args = some cause → exec (.play ref args) s = .next (s.refuse cause 0x10 ref)) ∧
    s.playRefusal args =
      (if 127 < field16 args 0 then some Cause.badSlot
       else if s.rx.width ≤ field16 args 0 / 32 then some .laneAbsent
       else if s.map (field16 args 0 / 32) = none then some .laneDown
       else if 63 < field8 args 2 ∨ (field8 args 3 ≠ 2 ∧ field8 args 3 ≠ 3) then some .badParam
       else if s.template (field8 args 2) = none then some .noTemplate
       else if 12 < field8 args 6 ∨ (args.drop 7).any (fun d => decide (15 < d.toNat)) then some .badParam
       else if field8 args 5 ≠ 0 ∧ (List.range 128).any (fun k =>
           (field8 args 4 = 0 || k ≠ field16 args 0) && (s.ctx k).any fun c => c.tag = some (field8 args 5)) then
         some .tagInUse
       else if (s.ctx (field16 args 0)).isSome ∧ field8 args 4 = 0 then some .busy
       else if s.ctx (field16 args 0) = none ∧
           96 ≤ ((List.range 128).filter fun k => (s.ctx k).isSome).length then some .noContext
       else none)

/-- PLAY taken with step 0 a TONE or SILENCE step (R72, R73, R77, R85): the context's record, TIMED with its frames; a
programme preempted ends first, with its END notice when it is tagged; nothing else. PLAY taken with step 0 a PHRASE step
whose phrase is playable and for which no head gathers (R72, R78, R111, R112): the lowest FREE head, else the LINGER head
with the least time left, is started with its snapshot, gathering or running by the gather window. -/
def Obligations.PlayBeginsStepZero : Prop :=
  ∀ (s : State) (ref : Byte) (args : List Byte) (t : Template) (m : Insertion), s.ready = true →
    lengthCounts 9 1 6 args = true → s.playRefusal args = none →
    Insertion.ofCode (field8 args 3) = some m → s.template (field8 args 2) = some t →
    let slot := field16 args 0
    let fresh : Ctx := freshContext (field8 args 2) m (initialCounters t.steps) ((args.drop 7).map BitVec.toNat)
      (if field8 args 5 = 0 then none else some (field8 args 5))
    let bound (c : Ctx) : State := { s with seq := { s.seq with contexts := s.seq.contexts.set slot (some c) } }
    (∀ (first : Step) (frames : Option Nat), t.steps[0]? = some first →
      ((∃ tone cadence duration, first = .tone tone cadence duration ∧
          frames = if duration = 0 then none else some (80 * duration)) ∨
        ∃ duration, first = .silence duration ∧ frames = some (80 * duration)) →
      (s.ctx slot = none →
        exec (.play ref args) s = .next (bound { fresh with state := .timed, remaining := frames })) ∧
      (∀ c, s.ctx slot = some c → c.head = none → (∀ w ∈ s.pool.queue, w.slot ≠ slot) →
        exec (.play ref args) s = .next (
          let u := bound { fresh with state := .timed, remaining := frames }
          match c.tag with
          | some tag => u.queueOrdinary (.ended slot tag .preempted c.skipped)
          | none => u))) ∧
    (∀ (p h : Nat) (e : Phrase), s.seq.contexts.length = 128 → s.pool.heads.length = 24 → s.ctx slot = none →
      t.steps[0]? = some (.phrase p) → s.playable p = true → s.entry p = some e →
      (∀ g < 24, ∀ r, s.headRun g = some r → r.phrase = p → ∀ timer, r.phase ≠ .gathering timer) → h < 24 →
      (s.headRun h = none ∧ (∀ g < h, s.headRun g ≠ none) ∨
        (∀ g < 24, s.headRun g ≠ none) ∧ ∃ r timer, s.headRun h = some r ∧ r.phase = .linger timer ∧
          ∀ g < 24, ∀ q left, s.headRun g = some q → q.phase = .linger left → timer < left ∨ timer = left ∧ h ≤ g) →
      ∃ u, exec (.play ref args) s = .next u ∧ sameBackdrop s u ∧ u.sender = s.sender ∧
        u.pool.queue = s.pool.queue ∧
        u.headRun h = some
          { phase := if s.pool.gatherWindow = 0 then .running else .gathering (s.pool.gatherWindow * 80)
            mode := .once, phrase := p, start := (s.window e.window).base * 4096 + e.offset, length := e.length
            trim := e.trim, offset := 0, arrived := none, hasRead := false, counts := false } ∧
        (∀ g, g ≠ h → u.head g = s.head g) ∧ sameContextsBut slot s u ∧
        u.ctx slot = some { fresh with
          state := if s.pool.gatherWindow = 0 then .playing else .gatherWait
          request := some (p, .once), head := some h })

/-- A going on takes the step the index names (R76 to R82, R84, R87): past the last step the programme ends COMPLETED; a
TONE or SILENCE step is TIMED with its frames; a PHRASE or LOOP step makes its request, the LOOP step's cycles set; a REPEAT
jumps, to be gone on with at the next frame event, or falls through to the following step with its counter set afresh;
DIGITS asks for one digit's phrase after another and passes where none is left; a request for a phrase that is not playable,
a digit's too, is passed over with the skipped count raised. Where a clause passes on, the step passed on to is a SILENCE
step, or the next digit is playable. -/
def Obligations.GoingOnTakesSteps : Prop :=
  ∀ (s : State) (own : Bool) (slot : Nat) (c : Ctx) (t : Template), s.ctx slot = some c →
    s.template c.template = some t →
    let now (d : Ctx) : State := { s with seq := { s.seq with contexts := s.seq.contexts.set slot (some d) } }
    let counter := (t.steps.take c.step).countP Step.isRep
    let left (count : Nat) := if count = 0 then c.params.length - c.cursor else min count (c.params.length - c.cursor)
    (t.steps.length ≤ c.step → s.goOnSlot own slot = s.endProgrammes [slot] .completed) ∧
    (∀ tone cadence d, t.steps[c.step]? = some (.tone tone cadence d) → s.goOnSlot own slot = now { c with
      state := .timed, remaining := if d = 0 then none else some (80 * d), position := 0 }) ∧
    (∀ d, t.steps[c.step]? = some (.silence d) → s.goOnSlot own slot = now { c with
      state := .timed, remaining := some (80 * d), position := 0 }) ∧
    (∀ p, t.steps[c.step]? = some (.phrase p) → s.playable p = true →
      some (s.goOnSlot own slot) = s.request own slot p .gather) ∧
    (∀ p cycles, t.steps[c.step]? = some (.loop p cycles) → s.playable p = true →
      some (s.goOnSlot own slot) = (now { c with cycles }).request own slot p .loop) ∧
    (∀ target times, t.steps[c.step]? = some (.rep target times) →
      (times = 0 → s.goOnSlot own slot = now { c with step := target, cursor := 0, state := .pending }) ∧
      (times ≠ 0 → 1 < c.counters.getD counter 0 → s.goOnSlot own slot = now { c with
        step := target, cursor := 0, state := .pending
        counters := c.counters.set counter (c.counters.getD counter 0 - 1) }) ∧
      (∀ d, times ≠ 0 → c.counters.getD counter 0 = 1 → t.steps[c.step + 1]? = some (.silence d) →
        s.goOnSlot own slot = now { c with
          step := c.step + 1, counters := c.counters.set counter times
          state := .timed, remaining := some (80 * d), position := 0 })) ∧
    (∀ p d, (t.steps[c.step]? = some (.phrase p) ∨ ∃ cycles, t.steps[c.step]? = some (.loop p cycles)) →
      c.digitsLeft = 0 → s.playable p = false → t.steps[c.step + 1]? = some (.silence d) →
      ∃ u, s.goOnSlot own slot = u ∧ sameBackdrop s u ∧ u.pool = s.pool ∧ u.sender = s.sender ∧
        sameContextsBut slot s u ∧ ∃ e, u.ctx slot = some e ∧ e.step = c.step + 1 ∧ e.state = .timed ∧
        e.remaining = some (80 * d) ∧ e.position = 0 ∧ e.skipped = min 255 (c.skipped + 1) ∧ e.head = none ∧
        e.request = none ∧ e.tag = c.tag ∧ e.cursor = c.cursor ∧ e.counters = c.counters) ∧
    (∀ base count, t.steps[c.step]? = some (.digits base count) →
      (∀ d, c.digitsLeft = 0 → left count = 0 → t.steps[c.step + 1]? = some (.silence d) →
        s.goOnSlot own slot = now { c with
          step := c.step + 1, state := .timed, remaining := some (80 * d), position := 0 }) ∧
      ∀ n, (if c.digitsLeft = 0 then left count else c.digitsLeft) = n + 1 →
        let past : Ctx := { c with
          cursor := c.cursor + 1, digitsLeft := n, skipped := min 255 (c.skipped + 1), head := none, request := none
          position := 0, mark := 0, cycles := 0, finished := false, hears := false }
        (s.playable (base + c.params.getD c.cursor 0) = true →
          some (s.goOnSlot own slot) = (now { c with digitsLeft := n + 1 }).request own slot
            (base + c.params.getD c.cursor 0) .digit) ∧
        (s.playable (base + c.params.getD c.cursor 0) = false →
          (∀ d, n = 0 → t.steps[c.step + 1]? = some (.silence d) → s.goOnSlot own slot = now { past with
            step := c.step + 1, state := .timed, remaining := some (80 * d), position := 0 }) ∧
          (0 < n → s.playable (base + c.params.getD (c.cursor + 1) 0) = true →
            some (s.goOnSlot own slot) = (now past).request own slot (base + c.params.getD (c.cursor + 1) 0) .digit)))

/-- A request is answered (R84, R101, R111, R113, R121, R125): abandoned where the phrase is not playable; queued at the end,
with the fallback and the wait timer, where no head can be joined, started or taken over. A phrase is playable where its
number is at most 511, the gate is OPEN, its entry is VALID and its region shares no address with one that an active
channel holds. -/
def Obligations.RequestsAreAbandonedOrQueued : Prop :=
  ∀ (s : State) (own : Bool) (slot p : Nat) (kind : ReqKind),
    (s.playable p = true ↔ p ≤ 511 ∧ s.su.gate = .isOpen ∧ ∃ e, s.entry p = some e ∧ e.state = .valid ∧
      ∀ c < 2, ∀ x, s.capture c = some x → ∀ a, x.start ≤ a → a < x.start + x.limit →
        ¬ ((s.window e.window).base * 4096 + e.offset ≤ a ∧
          a < (s.window e.window).base * 4096 + e.offset + e.length)) ∧
    (s.playable p = false → s.request own slot p kind = none) ∧
    (s.playable p = true → s.joinable p kind = none → s.freeHead = none → s.lingerHead = none →
      ∃ t, s.request own slot p kind = some t ∧ sameBackdrop s t ∧ t.pool.heads = s.pool.heads ∧
        t.pool.queue = s.pool.queue ++ [⟨slot, p, kind, s.pool.waitLimit * 800, false⟩] ∧
        t.ctx slot = (s.ctx slot).map (fun c => { c with
          request := some (p, kind.mode), state := .waiting, head := none, position := 0, fellBack := true }) ∧
        sameContextsBut slot s t ∧
        (s.pool.queue ≠ [] → t.sender = s.sender) ∧
        (s.pool.queue = [] → .shortageEnd ∉ s.sender.urgent →
          t.sender = { s.sender with urgent := s.sender.urgent ++ [.shortageBegin] }) ∧
        (s.pool.queue = [] → .shortageEnd ∈ s.sender.urgent →
          t.sender = { s.sender with urgent := s.sender.urgent.filter (· != .shortageEnd) }))

/-- A request joins a head (R111, R113, R114): a PHRASE request the lowest head gathering for its phrase; a LOOP request
the lowest cyclic head that holds it, a LINGER one becoming RUNNING where it stands. -/
def Obligations.RequestsJoinRunningHeads : Prop :=
  ∀ (s : State) (own : Bool) (slot p h : Nat) (kind : ReqKind) (c : Ctx) (r : HeadRun),
    s.playable p = true → s.ctx slot = some c → h < 24 → s.headRun h = some r → r.phrase = p →
    ((kind = .gather ∧ (∃ timer, r.phase = .gathering timer) ∧
        ∀ g < h, ∀ x, s.headRun g = some x → x.phrase = p → ∀ timer, x.phase ≠ .gathering timer) ∨
      (kind = .loop ∧ r.mode = .cyclic ∧ (∀ timer, r.phase ≠ .gathering timer) ∧
        ∀ g < h, ∀ x, s.headRun g = some x → x.phrase = p → x.mode = .cyclic → ∃ timer, x.phase = .gathering timer)) →
    ∃ t, s.request own slot p kind = some t ∧ sameBackdrop s t ∧ t.sender = s.sender ∧
      t.pool.queue = s.pool.queue ∧
      t.headRun h = some { r with phase := if kind = .loop then .running else r.phase } ∧
      (∀ g, g ≠ h → t.head g = s.head g) ∧ sameContextsBut slot s t ∧
      ∃ d, t.ctx slot = some d ∧ d.head = some h ∧ d.request = some (p, kind.mode) ∧
        d.state = (if kind = .loop then .playing else .gatherWait) ∧ d.step = c.step ∧ d.tag = c.tag ∧
        (kind = .loop → own = true → ∀ o, r.arrived = some o → d.mark = o ∧ d.hears = true) ∧
        (kind = .loop → own = false → r.hasRead = true → d.mark = r.offset ∧ d.hears = false ∧ d.cycles = c.cycles)

/-- STOP (R85, R86, R119, R122, R124, R125): the checks in their order; a programme without head or place in the queue
ends, with its END notice when it is tagged, and nothing else; any programme's context is freed and out of the wait queue, no
other programme ends, and nothing but contexts, heads, queue and notices changes. The head a programme leaves goes on where
another subscriber stays; left by all, it is FREE or lingers, and is offered where the wait queue is not empty. A waiter
leaves the queue, with SHORTAGE END where it empties. The END notice follows in each case. -/
def Obligations.StopEndsProgramme : Prop :=
  (∀ (s : State) (ref : Byte) (args : List Byte), s.ready = true →
      (args.length ≠ 2 → exec (.stop ref args) s = .next (s.refuse .badLength 0x12 ref (args.length + 2))) ∧
      (args.length = 2 → 127 < field16 args 0 → exec (.stop ref args) s = .next (s.refuse .badSlot 0x12 ref)) ∧
      (args.length = 2 → field16 args 0 ≤ 127 → s.ctx (field16 args 0) = none →
        exec (.stop ref args) s = .next (s.refuse .idle 0x12 ref)) ∧
      (∀ c, args.length = 2 → field16 args 0 ≤ 127 → s.ctx (field16 args 0) = some c → c.head = none →
        (∀ w ∈ s.pool.queue, w.slot ≠ field16 args 0) →
        exec (.stop ref args) s = .next (
          let u := { s with seq := { s.seq with contexts := s.seq.contexts.set (field16 args 0) none } }
          match c.tag with
          | some tag => u.queueOrdinary (.ended (field16 args 0) tag .stopped c.skipped)
          | none => u))) ∧
  ∀ (s : State) (ref : Byte) (args : List Byte) (c : Ctx), s.ready = true → args.length = 2 →
    field16 args 0 ≤ 127 → s.ctx (field16 args 0) = some c →
    let slot := field16 args 0
    let freed : State := { s with seq := { s.seq with contexts := s.seq.contexts.set slot none } }
    let noted (u : State) : State := match c.tag with
      | some tag => u.queueOrdinary (.ended slot tag .stopped c.skipped)
      | none => u
    (∃ u, exec (.stop ref args) s = .next u ∧ sameBackdrop s u ∧ u.ctx slot = none ∧
      (∀ w ∈ u.pool.queue, w.slot ≠ slot) ∧
      u.sender.ordinary = (noted s).sender.ordinary ∧ u.sender.drops = (noted s).sender.drops ∧
      ∀ k, k ≠ slot → (u.ctx k).isSome = (s.ctx k).isSome ∧
        ∀ x y, s.ctx k = some x → u.ctx k = some y →
          y.template = x.template ∧ y.mode = x.mode ∧ y.tag = x.tag ∧ y.params = x.params) ∧
    (∀ h r, c.head = some h → h < 24 → s.headRun h = some r → (∀ w ∈ s.pool.queue, w.slot ≠ slot) →
      ((∃ k < 128, k ≠ slot ∧ ∃ d, s.ctx k = some d ∧ d.head = some h) →
        exec (.stop ref args) s = .next (noted freed)) ∧
      ((∀ k < 128, k ≠ slot → ∀ d, s.ctx k = some d → d.head ≠ some h) →
        let rest : Option HeadRun := if r.mode = .once then none else match r.phase with
          | .gathering _ => none
          | .running => if s.pool.lingerTime = 0 then none
            else some { r with phase := .linger (s.pool.lingerTime * 800), counts := false }
          | .linger _ => some r
        let left : State := { freed with pool := { s.pool with
          heads := s.pool.heads.set h { run := rest, sample := (s.head h).sample } } }
        exec (.stop ref args) s = .next (noted (if s.pool.queue = [] then left else left.offer h)))) ∧
    (c.head = none → (∃ w ∈ s.pool.queue, w.slot = slot) → ∃ u, exec (.stop ref args) s = .next u ∧
      u.pool.heads = s.pool.heads ∧ u.pool.queue = s.pool.queue.filter (fun w => w.slot ≠ slot) ∧
      sameContextsBut slot s u ∧
      (u.pool.queue ≠ [] → u.sender.urgent = s.sender.urgent) ∧
      (u.pool.queue = [] → .shortageBegin ∉ s.sender.urgent →
        u.sender.urgent = s.sender.urgent ++ [.shortageEnd]) ∧
      (u.pool.queue = [] → .shortageBegin ∈ s.sender.urgent →
        u.sender.urgent = s.sender.urgent.filter (· != .shortageBegin)))

/-! ### Head Pool -/

/-- GATHER_TIMER_EXPIRY (R115): the head runs from offset 0, every subscriber has the news and is PLAYING; nothing else. -/
def Obligations.GatherTimerStartsHead : Prop :=
  ∀ (s : State) (h : Nat) (r : HeadRun), s.headRun h = some r → r.phase = .gathering 0 →
    ∃ t, exec (.gatherTimerExpiry h) s = .next t ∧ sameBackdrop s t ∧ t.sender = s.sender ∧
      t.pool.queue = s.pool.queue ∧
      t.headRun h = some { r with phase := .running, offset := 0 } ∧ (∀ g, g ≠ h → t.head g = s.head g) ∧
      (∀ k < 128, ∀ c, s.ctx k = some c → c.head = some h →
        t.ctx k = some { c with state := .playing, hears := false, news := true }) ∧
      (∀ k, (∀ c, s.ctx k = some c → c.head ≠ some h) → t.ctx k = s.ctx k)

/-- TIMED_STEP_END (R77): the index moves to the following step, PENDING; nothing else. LINGER_TIMER_EXPIRY (R120): the
head becomes FREE; nothing else. -/
def Obligations.TimedStepAndLingerEnd : Prop :=
  (∀ (s : State) (slot : Nat) (c : Ctx), s.ctx slot = some c → c.state = .timed → c.remaining = some 0 →
    exec (.timedStepEnd slot) s = .next { s with seq := { s.seq with
      contexts := s.seq.contexts.set slot (some { c with step := c.step + 1, state := .pending, position := 0 }) } }) ∧
  ∀ (s : State) (h : Nat) (r : HeadRun), s.headRun h = some r → r.phase = .linger 0 →
    exec (.lingerTimerExpiry h) s = .next { s with pool := { s.pool with
      heads := s.pool.heads.set h { run := none, sample := (s.head h).sample } } }

/-- WAIT_TIMER_EXPIRY (R123, R84, R125): the waiter leaves the queue, its request is abandoned and it passes on from the
next frame event; no head changes, and SHORTAGE END follows where the queue empties. -/
def Obligations.WaitTimerAbandonsRequest : Prop :=
  ∀ (s : State) (slot : Nat) (w : Waiter) (c : Ctx), s.ready = true → w ∈ s.pool.queue → w.slot = slot →
    w.timer = 0 → s.ctx slot = some c → c.digitsLeft = 0 →
    ∃ t, exec (.waitTimerExpiry slot) s = .next t ∧ sameBackdrop s t ∧ t.pool.heads = s.pool.heads ∧
      t.pool.queue = s.pool.queue.filter (fun v => v.slot ≠ slot) ∧ sameContextsBut slot s t ∧
      t.ctx slot = some { c with
        step := c.step + 1, state := .pending, head := none, request := none, position := 0, mark := 0, cycles := 0
        finished := false, hears := false, news := true, skipped := min 255 (c.skipped + 1) } ∧
      (t.pool.queue ≠ [] → t.sender = s.sender) ∧
      (t.pool.queue = [] → .shortageBegin ∉ s.sender.urgent →
        t.sender = { s.sender with urgent := s.sender.urgent ++ [.shortageEnd] }) ∧
      (t.pool.queue = [] → .shortageBegin ∈ s.sender.urgent →
        t.sender = { s.sender with urgent := s.sender.urgent.filter (· != .shortageBegin) })

/-- PHRASE_COMPLETE (R117, R78, R81, R119, R122): every subscriber's request is complete, the head FREE; nothing else, but
that the head is then offered where the wait queue is not empty. -/
def Obligations.PhraseCompletes : Prop :=
  ∀ (s : State) (h : Nat) (r : HeadRun), h < 24 → s.headRun h = some r → r.mode = .once → r.phase = .running →
    r.offset = r.length →
    ∃ t, exec (.phraseComplete h) s = .next (if s.pool.queue = [] then t else t.offer h) ∧ sameBackdrop s t ∧
      t.sender = s.sender ∧ t.pool.queue = s.pool.queue ∧
      t.headRun h = none ∧ (∀ g, g ≠ h → t.head g = s.head g) ∧
      (∀ k < 128, ∀ c, s.ctx k = some c → c.head = some h → ∃ d, t.ctx k = some d ∧
        d.state = .pending ∧ d.head = none ∧ d.request = none ∧ d.news = true ∧ d.skipped = c.skipped ∧
        d.tag = c.tag ∧ d.params = c.params ∧
        (c.digitsLeft = 0 → d.step = c.step + 1 ∧ d.cursor = c.cursor ∧ d.digitsLeft = 0) ∧
        (0 < c.digitsLeft → d.cursor = c.cursor + 1 ∧ d.digitsLeft = c.digitsLeft - 1 ∧
          d.step = if c.digitsLeft = 1 then c.step + 1 else c.step)) ∧
      (∀ k, (∀ c, s.ctx k = some c → c.head ≠ some h) → t.ctx k = s.ctx k)

/-- LOOP_CYCLES_COMPLETE (R118, R119, R122): the subscribers that have counted out leave, the others stay; a cyclic head left
by all lingers, or is FREE where the linger time is 0, and is then offered where the wait queue is not empty. -/
def Obligations.LoopCyclesComplete : Prop :=
  ∀ (s : State) (h : Nat) (r : HeadRun), h < 24 → s.headRun h = some r → r.mode = .cyclic → r.phase = .running →
    s.finishedOn h ≠ [] →
    let empties : Prop := ∀ k ∈ s.subscribers h, k ∈ s.finishedOn h
    ∃ t, (s.pool.queue = [] ∨ ¬ empties → exec (.loopCyclesComplete h) s = .next t) ∧
      (s.pool.queue ≠ [] → empties → exec (.loopCyclesComplete h) s = .next (t.offer h)) ∧
      sameBackdrop s t ∧ t.sender = s.sender ∧ t.pool.queue = s.pool.queue ∧
      (∀ g, g ≠ h → t.head g = s.head g) ∧
      (∀ k < 128, ∀ c, s.ctx k = some c → c.head = some h → c.finished = true → c.digitsLeft = 0 → t.ctx k = some
        { c with step := c.step + 1, state := .pending, head := none, request := none, position := 0, mark := 0
                 cycles := 0, finished := false, hears := false, news := true }) ∧
      (∀ k, (∀ c, s.ctx k = some c → c.head = some h → c.finished = false) → t.ctx k = s.ctx k) ∧
      (empties → t.headRun h = if s.pool.lingerTime = 0 then none
        else some { r with phase := .linger (s.pool.lingerTime * 800), counts := false }) ∧
      (¬ empties → t.headRun h = some r)

/-- An offered head (R122): the waiters in front whose phrase is not playable are abandoned; the first other one is
granted the head, started afresh for its phrase, and every later waiter with the same phrase and kind goes with it,
unless it asks for a digit; the rest keep their order. -/
def Obligations.OfferGrantsAndCollapses : Prop :=
  ∀ (s : State) (h : Nat) (bad : List Waiter) (w : Waiter) (rest : List Waiter) (e : Phrase),
    s.pool.queue = bad ++ w :: rest → (∀ v ∈ bad, s.playable v.phrase = false) → s.playable w.phrase = true →
    s.entry w.phrase = some e → h < s.pool.heads.length →
    (s.pool.queue.map Waiter.slot).Nodup → (∀ v ∈ s.pool.queue, ∃ c, s.ctx v.slot = some c) →
    let goes (v : Waiter) : Bool := v.phrase == w.phrase && (v.kind == w.kind && v.kind != .digit)
    (s.offer h).pool.queue = rest.filter (fun v => !goes v) ∧ sameBackdrop s (s.offer h) ∧
    (s.offer h).headRun h = some
      { phase := if w.kind = .gather ∧ s.pool.gatherWindow ≠ 0 then .gathering (s.pool.gatherWindow * 80) else .running
        mode := if w.kind = .loop then .cyclic else .once
        phrase := w.phrase, start := (s.window e.window).base * 4096 + e.offset, length := e.length, trim := e.trim
        offset := 0, arrived := none, hasRead := false, counts := false } ∧
    (∀ g, g ≠ h → (s.offer h).head g = s.head g) ∧
    (∀ v, (v = w ∨ v ∈ rest.filter goes) → ∃ d, (s.offer h).ctx v.slot = some d ∧ d.head = some h ∧ d.news = true ∧
      d.mark = 0 ∧ d.state = if w.kind = .gather ∧ s.pool.gatherWindow ≠ 0 then .gatherWait else .playing) ∧
    (∀ v ∈ bad, ∃ c d, s.ctx v.slot = some c ∧ (s.offer h).ctx v.slot = some d ∧ d.state = .pending ∧
      d.head = none ∧ d.request = none ∧ d.skipped = min 255 (c.skipped + 1)) ∧
    (∀ k, (∀ v ∈ s.pool.queue, v.slot ≠ k) → (s.offer h).ctx k = s.ctx k)

/-- HEAD PLAN (R109): the three values, clamped; running timers and everything else stay. -/
def Obligations.HeadPlanReplacesPlan : Prop :=
  ∀ (s : State) (ref : Byte) (args : List Byte), s.ready = true →
    exec (.headPlan ref args) s = .next (
      if args.length ≠ 3 then s.refuse .badLength 0x30 ref (args.length + 2)
      else { s with pool := { s.pool with
        gatherWindow := min (field8 args 0) 50, lingerTime := field8 args 1, waitLimit := max (field8 args 2) 1 } })

/-! ### Store unit -/

/-- A store write (R91): the byte written is read back, every other address reads as before, and the canonical form is
kept. -/
def Obligations.StoreReadsLastWrite : Prop :=
  ∀ (cells : List Host.Cell) (a : Nat) (v : Byte), Memory.wf cells = true → a < 16777216 →
    storeRead (storeWrite cells a v) a = v ∧ (∀ c, c ≠ a → storeRead (storeWrite cells a v) c = storeRead cells c) ∧
    Memory.wf (storeWrite cells a v) = true

/-- WINDOW MAP (R84, R93, R94, R125, R126, R138). Refused: the first window at fault is named, and nothing else changes.
Taken: the windows replaced, the gate CLOSED_CHECK, VALID entries UNCHECKED, both channels aborted, the queue emptied and
every waiter's request abandoned, with SHORTAGE END or a cancelled BEGIN, every head stopped and its subscribers' requests
abandoned; the store and everything else as it was. -/
def Obligations.WindowMapStopsEverything : Prop :=
  (∀ (s : State) (ref : Byte) (args : List Byte), s.ready = true →
      (args.length ≠ 40 → exec (.windowMap ref args) s = .next (s.refuse .badLength 0x20 ref (args.length + 2))) ∧
      (∀ k < 8, args.length = 40 →
        (∀ j < k, windowInRange (field8 args (5 * j)) (field16 args (5 * j + 1)) (field16 args (5 * j + 3))) →
        ¬ windowInRange (field8 args (5 * k)) (field16 args (5 * k + 1)) (field16 args (5 * k + 3)) →
        exec (.windowMap ref args) s = .next (s.refuse .badWindow 0x20 ref k))) ∧
  ∀ (s : State) (ref : Byte) (args : List Byte), s.ready = true → s.caps.length = 2 → args.length = 40 →
    (∀ k < 8, windowInRange (field8 args (5 * k)) (field16 args (5 * k + 1)) (field16 args (5 * k + 3))) →
    ∃ t, exec (.windowMap ref args) s = .next t ∧
      t.su = { windows := (List.range 8).map (fun k =>
                 if field8 args (5 * k) = 0 then ⟨.absent, 0, 0⟩
                 else ⟨if field8 args (5 * k) = 1 then .play else .playRecord,
                   field16 args (5 * k + 1), field16 args (5 * k + 3)⟩)
               mapLoaded := true, gate := .closedCheck, store := s.su.store
               directory := s.su.directory.map (Option.map fun e =>
                 { e with state := if e.state = .valid then .unchecked else e.state }) } ∧
      t.caps = [none, none] ∧ t.pool.queue = [] ∧ (∀ x ∈ t.pool.heads, x.run = none) ∧
      t.rx = s.rx ∧ t.tx = s.tx ∧ t.slots = s.slots ∧ t.bank = s.bank ∧ t.seq.templates = s.seq.templates ∧
      t.orders = s.orders ∧ t.pending = s.pending ∧
      (∀ k < 128, ∀ c h, s.ctx k = some c → c.head = some h → h < 24 → (∀ w ∈ s.pool.queue, w.slot ≠ k) →
        ∃ d, t.ctx k = some d ∧ d.state = .pending ∧ d.head = none ∧ d.request = none ∧
          d.skipped = min 255 (c.skipped + 1)) ∧
      ((s.pool.queue.map Waiter.slot).Nodup → ∀ w ∈ s.pool.queue, ∀ c, s.ctx w.slot = some c →
        ∃ d, t.ctx w.slot = some d ∧ d.state = .pending ∧ d.head = none ∧ d.request = none ∧ d.news = true ∧
          d.skipped = min 255 (c.skipped + 1) ∧ d.tag = c.tag ∧
          d.step = (if c.digitsLeft ≤ 1 then c.step + 1 else c.step) ∧ d.digitsLeft = c.digitsLeft - 1 ∧
          d.cursor = (if c.digitsLeft = 0 then c.cursor else c.cursor + 1)) ∧
      (s.pool.queue = [] → t.sender.urgent = s.sender.urgent) ∧
      (s.pool.queue ≠ [] → .shortageBegin ∉ s.sender.urgent →
        t.sender.urgent = s.sender.urgent ++ [.shortageEnd]) ∧
      (s.pool.queue ≠ [] → .shortageBegin ∈ s.sender.urgent →
        t.sender.urgent = s.sender.urgent.filter (· != .shortageBegin)) ∧
      (∀ k, (∀ c, s.ctx k = some c → c.head = none) → (∀ w ∈ s.pool.queue, w.slot ≠ k) → t.ctx k = s.ctx k) ∧
      t.sender.ordinary = (((List.range 2).foldl (fun u i => match s.capture i with
        | some x => u.queueOrdinary (.captureEnd i x.phrase .mapChanged x.written x.suspects)
        | none => u) s).sender.ordinary)

/-- PHRASE refused (R97): the checks in their order, each naming the phrase at fault; nothing else changes. That the lowest
of several phrases at fault is named is R97's for the validation, and the model's choice for the other faults (log 33). -/
def Obligations.PhraseRefusalsInOrder : Prop :=
  ∀ (s : State) (ref : Byte) (args : List Byte), s.ready = true →
    let first := field16 args 0
    let n := field8 args 2
    let window (k : Nat) := field8 args (3 + 8 * k)
    let present (k : Nat) : Prop := window k ≤ 7
    let empty (k : Nat) : Prop := window k ≤ 7 ∧ field24 args (7 + 8 * k) = 0
    let target (k : Nat) : Prop := ∃ c < 2, ∃ x, s.capture c = some x ∧ x.phrase = first + k
    let outside (k : Nat) : Prop := s.su.mapLoaded = true ∧ window k ≤ 7 ∧
      ((s.window (window k)).attr = .absent ∨
        (s.window (window k)).size * 4096 < field24 args (4 + 8 * k) + field24 args (7 + 8 * k))
    (¬ (2 < args.length ∧ 5 + 8 * n ≤ 72 ∧ args.length = 3 + 8 * n) →
      exec (.phrase ref args) s = .next (s.refuse .badLength 0x21 ref (args.length + 2))) ∧
    (2 < args.length → 5 + 8 * n ≤ 72 → args.length = 3 + 8 * n →
      ((n = 0 ∨ 512 < first + n) → exec (.phrase ref args) s = .next (s.refuse .badParam 0x21 ref first)) ∧
      (1 ≤ n → first + n ≤ 512 → ∀ k < n,
        (¬ present k → window k ≠ 255 → (∀ j < k, present j ∨ window j = 255) →
          exec (.phrase ref args) s = .next (s.refuse .badParam 0x21 ref (first + k))) ∧
        ((∀ j < n, present j ∨ window j = 255) →
          (empty k → (∀ j < k, ¬ empty j) →
            exec (.phrase ref args) s = .next (s.refuse .badParam 0x21 ref (first + k))) ∧
          ((∀ j < n, ¬ empty j) →
            (target k → (∀ j < k, ¬ target j) →
              exec (.phrase ref args) s = .next (s.refuse .inUse 0x21 ref (first + k))) ∧
            ((∀ j < n, ¬ target j) → outside k → (∀ j < k, ¬ outside j) →
              exec (.phrase ref args) s = .next (s.refuse .badPhrase 0x21 ref (first + k)))))))

/-- PHRASE taken (R98): each entry written, VALID where a map is held, ABSENT for window 0xFF; every other entry and
everything else as it was. -/
def Obligations.PhraseWritesEntries : Prop :=
  ∀ (s : State) (ref : Byte) (args : List Byte), s.ready = true → s.su.directory.length = 512 →
    2 < args.length → 5 + 8 * field8 args 2 ≤ 72 → args.length = 3 + 8 * field8 args 2 →
    1 ≤ field8 args 2 → field16 args 0 + field8 args 2 ≤ 512 →
    (∀ k < field8 args 2, field8 args (3 + 8 * k) = 255 ∨
      field8 args (3 + 8 * k) ≤ 7 ∧ field24 args (7 + 8 * k) ≠ 0) →
    (∀ k < field8 args 2, ∀ c < 2, ∀ x, s.capture c = some x → x.phrase ≠ field16 args 0 + k) →
    (s.su.mapLoaded = true → ∀ k < field8 args 2, field8 args (3 + 8 * k) ≤ 7 →
      (s.window (field8 args (3 + 8 * k))).attr ≠ .absent ∧
      field24 args (4 + 8 * k) + field24 args (7 + 8 * k) ≤ (s.window (field8 args (3 + 8 * k))).size * 4096) →
    ∃ directory, exec (.phrase ref args) s = .next { s with su := { s.su with directory } } ∧
      directory.length = 512 ∧
      (∀ q < 512, (q < field16 args 0 ∨ field16 args 0 + field8 args 2 ≤ q) →
        directory[q]? = s.su.directory[q]?) ∧
      (∀ k < field8 args 2, directory[field16 args 0 + k]? = some (
        if field8 args (3 + 8 * k) = 255 then none
        else some { state := if s.su.mapLoaded then .valid else .unchecked, window := field8 args (3 + 8 * k)
                    offset := field24 args (4 + 8 * k), length := field24 args (7 + 8 * k)
                    trim := field8 args (10 + 8 * k) }))

/-- DIRECTORY CHECK (R100, R96): refused before a map is held; else every defined entry marked, the gate OPEN, and the
CHECKED notice with the counts. -/
def Obligations.DirectoryCheckOpensGate : Prop :=
  ∀ (s : State) (ref : Byte) (args : List Byte), s.ready = true →
    (args ≠ [] → exec (.directoryCheck ref args) s = .next (s.refuse .badLength 0x22 ref (args.length + 2))) ∧
    (s.su.gate = .closedBoth → exec (.directoryCheck ref []) s = .next (s.refuse .noMap 0x22 ref)) ∧
    (s.su.gate ≠ .closedBoth → ∃ directory valid invalid lowest,
      exec (.directoryCheck ref []) s = .next (({ s with su := { s.su with
        directory, gate := .isOpen } } : State).queueOrdinary (.checked ref valid invalid lowest)) ∧
      directory = s.su.directory.map (Option.map fun e => { e with state :=
        if (s.window e.window).attr ≠ .absent ∧ e.offset + e.length ≤ (s.window e.window).size * 4096 then .valid
        else .invalid }) ∧
      valid = directory.countP (fun x => x.any fun e => e.state = .valid) ∧
      invalid = directory.countP (fun x => x.any fun e => e.state = .invalid) ∧
      (invalid = 0 → lowest = 0xFFFF) ∧
      (invalid ≠ 0 → (∃ e, directory[lowest]? = some (some e) ∧ e.state = .invalid) ∧
        ∀ q < lowest, ∀ e, directory[q]? = some (some e) → e.state = .valid))

/-! ### Capture Channels -/

/-- CAPTURE START (R131, R132): the first check that fails, in the order of the table, and none where none fails; taken,
the channel's record with its clamped values and no other change. -/
def Obligations.CaptureStartChecksAndSets : Prop :=
  (∀ (s : State) (ref : Byte) (args : List Byte), s.ready = true →
      let w := s.window (field8 args 5)
      let limit := min (max (field16 args 9) 1 * 80) (w.size * 4096 - field24 args 6)
      let start := w.base * 4096 + field24 args 6
      let meets (from' len : Nat) : Bool :=
        decide (0 < limit ∧ 0 < len ∧ start < from' + len ∧ from' < start + limit)
      (args.length ≠ 15 → exec (.captureStart ref args) s = .next (s.refuse .badLength 0x40 ref (args.length + 2))) ∧
      (args.length = 15 → ∀ cause : Cause, s.captureRefusal args = some cause →
        exec (.captureStart ref args) s = .next (s.refuse cause 0x40 ref)) ∧
      s.captureRefusal args =
        (if 1 < field8 args 0 then some .badParam
         else if (s.capture (field8 args 0)).isSome then some .captureBusy
         else if s.su.mapLoaded = false then some .noMap
         else if 7 < field8 args 5 then some .badParam
         else if w.attr ≠ .playRecord then some .notRecordable
         else if w.size * 4096 ≤ field24 args 6 then some .badParam
         else if 127 < field16 args 1 then some .badSlot
         else if s.rx.width ≤ field16 args 1 / 32 then some .laneAbsent
         else if s.map (field16 args 1 / 32) = none then some .laneDown
         else if 511 < field16 args 3 then some .badParam
         else if (List.range 2).any (fun c => (s.capture c).any fun x => x.phrase == field16 args 3) then some .inUse
         else if (List.range 2).any (fun c => (s.capture c).any fun x => meets x.start x.limit) then some .overlap
         else if (List.range 24).any (fun h => (s.headRun h).any fun r => meets r.start r.length) then some .overlap
         else none)) ∧
  ∀ (s : State) (ref : Byte) (args : List Byte), s.ready = true → args.length = 15 → s.captureRefusal args = none →
    exec (.captureStart ref args) s = .next { s with caps := s.caps.set (field8 args 0) (some
      { phase := if field16 args 11 = 0 then .recording else .waitingVoice (max (field8 args 13) 1 * 800)
        slot := field16 args 1, phrase := field16 args 3, window := field8 args 5, offset := field24 args 6
        start := (s.window (field8 args 5)).base * 4096 + field24 args 6
        limit := min (max (field16 args 9) 1 * 80) ((s.window (field8 args 5)).size * 4096 - field24 args 6)
        threshold := min (field16 args 11) 4095, voiceWait := max (field8 args 13) 1
        silenceHold := field8 args 14, written := 0, lastLoud := none, quiet := 0, suspects := 0, todo := false }) }

/-- CAPTURE STOP (R137, R136, R103): refusals; EMPTY with nothing recorded; else the entry is written VALID with every
byte written, the channel IDLE, the notice queued. -/
def Obligations.CaptureStopEndsChannel : Prop :=
  ∀ (s : State) (ref : Byte) (args : List Byte), s.ready = true →
    (args.length ≠ 1 → exec (.captureStop ref args) s = .next (s.refuse .badLength 0x41 ref (args.length + 2))) ∧
    (args.length = 1 → 1 < field8 args 0 →
      exec (.captureStop ref args) s = .next (s.refuse .badParam 0x41 ref)) ∧
    (args.length = 1 → field8 args 0 ≤ 1 → s.capture (field8 args 0) = none →
      exec (.captureStop ref args) s = .next (s.refuse .idle 0x41 ref)) ∧
    (∀ x, args.length = 1 → field8 args 0 ≤ 1 → s.capture (field8 args 0) = some x →
      exec (.captureStop ref args) s = .next (
        if x.written = 0 then
          ({ s with caps := s.caps.set (field8 args 0) none } : State).queueOrdinary
            (.captureEnd (field8 args 0) x.phrase .empty 0 x.suspects)
        else
          ({ s with
              su := { s.su with
                directory := s.su.directory.set x.phrase (some ⟨.valid, x.window, x.offset, x.written, 128⟩) }
              caps := s.caps.set (field8 args 0) none } : State).queueOrdinary
            (.captureEnd (field8 args 0) x.phrase .stopped x.written x.suspects)))

/-- The frame work of a RECORDING channel (R134): the byte as it arrived, or silence for a suspect frame, at its place
and nowhere else; loud and quiet bytes classified; nothing else changes. -/
def Obligations.RecordingWritesOneByte : Prop :=
  ∀ (s : State) (c : Nat) (x : Capture) (b : Byte) (suspect : Bool), s.storeLaw → x.phase = .recording →
    ∃ store, s.workCapture c x b suspect = { s with
      su := { s.su with store }
      caps := s.caps.set c (some (
        if suspect = false ∧ x.threshold ≤ (decodeCode b).natAbs then
          { x with written := x.written + 1, lastLoud := some x.written, quiet := 0 }
        else if suspect then { x with written := x.written + 1, quiet := x.quiet + 1, suspects := x.suspects + 1 }
        else { x with written := x.written + 1, quiet := x.quiet + 1 })) } ∧
      (∀ a, a ≠ x.start + x.written → storeRead store a = storeRead s.su.store a) ∧
      storeRead store (x.start + x.written) = if suspect then 0x00 else b

/-- VOICE_TIMER_EXPIRY, CAPTURE_FULL and CAPTURE_SILENCE (R133, R135, R136, R103): causes and lengths, the entry
written or left, the channel IDLE, the notice queued; nothing else. -/
def Obligations.CaptureEndings : Prop :=
  ∀ (s : State) (c : Nat) (x : Capture), s.capture c = some x →
    let ended (cause : CaptureCause) (n : Nat) : State :=
      if n = 0 then ({ s with caps := s.caps.set c none } : State).queueOrdinary
        (.captureEnd c x.phrase .empty 0 x.suspects)
      else ({ s with
          su := { s.su with directory := s.su.directory.set x.phrase (some ⟨.valid, x.window, x.offset, n, 128⟩) }
          caps := s.caps.set c none } : State).queueOrdinary (.captureEnd c x.phrase cause n x.suspects)
    let silent : Prop := 0 < x.silenceHold ∧ x.quiet = x.silenceHold * 80
    (x.phase = .waitingVoice 0 → exec (.voiceTimerExpiry c) s =
      .next (({ s with caps := s.caps.set c none } : State).queueOrdinary
        (.captureEnd c x.phrase .noVoice 0 x.suspects))) ∧
    (x.phase = .recording → x.written = x.limit → ¬ silent →
      exec (.captureFull c) s = .next (ended .full x.written)) ∧
    (x.phase = .recording → silent → exec (.captureSilence c) s =
      .next (ended .silence (match x.lastLoud with | some q => q + 1 | none => 0)))

/-! ### Lanes and frame events -/

/-- HUNT_BYTE_ARRIVAL (R3): a lane in HUNT looks for 0x2D, counts the candidate's 34 bytes and enters CHECK; any other lane
ignores the byte; nothing else changes. A fifth lane is refused (log 16). -/
def Obligations.HuntByteArrives : Prop :=
  ∀ (s : State) (p : Nat) (b : Byte),
    (4 ≤ p → exec (.huntByteArrival p b) s = .refused .illFormed) ∧
    ∀ x, s.quiet = true → p < 4 → s.lane p = some x →
      exec (.huntByteArrival p b) s = .next { s with rx := { s.rx with lanes := s.rx.lanes.set p (
        if x.align ≠ .hunt then x
        else if x.search = 0 then (if b = 0x2D then { x with search := 1 } else x)
        else if x.search < 33 then { x with search := x.search + 1 }
        else { huntingLane x.slips with align := .check, expected := some .b }) } }

/-- LANE_FRAME_ARRIVAL with no frame event outstanding (R1, R2, R4, R6, R7, R11, R12): the framing byte judged, the expected
kind flipped, the counts, the elastic store with its suspect mark and drop slip, and, for the control lane, the frame
event; nothing else changes. That a lane with check count 8 still stands in CHECK and one with loss or mismatch count 4
still in use, the event of R5, R6 or R7 being left due, is the model's choice (log 3). Left out: a lane in HUNT without a
candidate (log 9) and an arrival with a frame event outstanding (log 27). What is not a lane frame is refused (log 16). -/
def Obligations.LaneFrameArrives : Prop :=
  ∀ (s : State) (p : Nat) (f : LaneFrame) (late : Bool),
    (4 ≤ p ∨ f.slots.length ≠ 32 → exec (.laneFrameArrival p f late) s = .refused .illFormed) ∧
    ∀ x, s.quiet = true → s.rx.clockDue = false → p < 4 → f.slots.length = 32 → s.lane p = some x →
      let good := framingCorrect x f.framing
      ∃ y : Lane,
        exec (.laneFrameArrival p f late) s = .next { s with rx := { s.rx with
          lanes := s.rx.lanes.set p y
          clockTaken := s.rx.clockTaken || (s.isControl p && (y.losses != 4 && (y.mismatches != 4 && late)))
          clockDue := s.isControl p && (y.losses != 4 && (y.mismatches != 4 && (s.rx.clockTaken || late))) } } ∧
        (x.align = .hunt → 0 < x.search → y = { huntingLane x.slips with align := .check, expected := some .b }) ∧
        (x.align = .check → good = false → y = huntingLane x.slips) ∧
        (x.align = .check → good = true → y = { flipped x with
          checks := x.checks + 1
          identity := if x.identity = none ∧ x.expected = some .b then some (f.framing.toNat - 0xC0) else x.identity
          store := if x.checks = 7 then some ⟨f, false⟩ else none
          late }) ∧
        (x.align = .aligned ∨ x.align = .spare →
          y.align = x.align ∧ y.expected = (flipped x).expected ∧ y.identity = x.identity ∧ y.last = x.last ∧
          y.losses = (if good then 0 else x.losses + 1) ∧
          y.mismatches = (if framingMismatch x f.framing then x.mismatches + 1
            else if good = true ∧ x.expected = some .b then 0 else x.mismatches)) ∧
        (x.align = .spare → y.store = x.store ∧ y.slips = x.slips) ∧
        (x.align = .aligned → (y.losses = 4 ∨ y.mismatches = 4) → y.store = none ∧ y.slips = x.slips) ∧
        (x.align = .aligned → y.losses ≠ 4 → y.mismatches ≠ 4 →
          y.store = some ⟨f, !good⟩ ∧ y.slips = if x.store = none then x.slips else min 255 (x.slips + 1))

/-- CHECK_COMPLETE (R5, R8, R11, R15, R147): ALIGNED where the identity is below the width and unheld, else SPARE, with the
LANE notice; a new control lane takes the clock over and the partial message is discarded; nothing else changes. -/
def Obligations.CheckCompletes : Prop :=
  ∀ (s : State) (p l : Nat) (x : Lane), p < 4 → l < 4 → s.lane p = some x → x.align = .check → x.checks = 8 →
    x.identity = some l →
    let spare : Lane := { x with align := .spare, losses := 0, mismatches := 0, store := none, last := none }
    (s.rx.width ≤ l ∨ s.map l ≠ none → exec (.checkComplete p) s = .next { s with
      rx := { s.rx with lanes := s.rx.lanes.set p spare }
      sender := { s.sender with urgent := placeLane s.sender.urgent l p .spare } }) ∧
    (l < s.rx.width → s.map l = none → ∃ t, exec (.checkComplete p) s = .next t ∧
      t = { s with rx := t.rx, orders := t.orders, sender := t.sender } ∧
      t.rx = { s.rx with lanes := s.rx.lanes.set p { x with align := .aligned, losses := 0, mismatches := 0, last := none }
                         clockTaken := t.rx.clockTaken, clockDue := t.rx.clockDue } ∧
      t.sender = { s.sender with urgent := placeLane s.sender.urgent l p .aligned } ∧
      t.map l = some p ∧ (∀ k, k ≠ l → t.map k = s.map k) ∧ t.orders.due = s.orders.due ∧
      ((∀ k, s.control = some k → l < k) → t.control = some l ∧ t.orders.parser = .hunt ∧
        t.rx.clockTaken = x.late ∧ t.rx.clockDue = x.late) ∧
      (∀ k, s.control = some k → k < l → t.control = some k ∧ t.orders.parser = s.orders.parser ∧
        t.rx.clockTaken = s.rx.clockTaken ∧ t.rx.clockDue = s.rx.clockDue))

/-- LANE_LOSS and MISMATCH_LANE_LOSS (R6, R7, R8, R11, R14, R15, R85, R88, R138, R147), for every order of passing the loss
on: the lane hunts; for an ALIGNED lane the SPARE ones of its identity hunt too, its programmes and captures end with their
END and CAPTURE END notices (in the loss order's order, log 6), a partial message of its control lane is discarded, the clock
has yet to take up a new lane, and LOST is queued; a SPARE lane has no other effect. -/
def Obligations.LaneLossPassesOn : Prop :=
  ∀ (s : State) (p l : Nat) (o : LossOrder) (x : Lane) (i : Instr), p < 4 → s.lane p = some x → x.identity = some l →
    (i = .laneLoss p o ∧ x.losses = 4 ∨ i = .mismatchLaneLoss p o ∧ x.mismatches = 4) →
    (x.align = .spare → exec i s = .next { s with rx := { s.rx with
      lanes := s.rx.lanes.set p (huntingLane x.slips) } }) ∧
    (x.align = .aligned → s.map l = some p → ∃ t, exec i s = .next t ∧
      t.rx.lanes = (s.rx.lanes.set p (huntingLane x.slips)).map (fun y =>
        if y.align = .spare ∧ y.identity = some l then huntingLane y.slips else y) ∧
      t.rx.width = s.rx.width ∧ t.rx.restartSet = s.rx.restartSet ∧ t.rx.qualCount = s.rx.qualCount ∧
      t.rx.armed = s.rx.armed ∧
      (∀ k < 128, k / 32 = l → t.ctx k = none) ∧
      (∀ k, k / 32 ≠ l → (t.ctx k).isSome = (s.ctx k).isSome) ∧
      (∀ c < 2, ∀ y, s.capture c = some y → t.capture c = if y.slot / 32 = l then none else some y) ∧
      .lane l p .lost ∈ t.sender.urgent ∧
      (l < 4 → t.sender.ordinary = ((s.lossNotices o l).foldl State.queueOrdinary s).sender.ordinary ∧
        t.sender.drops = ((s.lossNotices o l).foldl State.queueOrdinary s).sender.drops) ∧
      (s.control = some l → t.rx.clockTaken = false ∧ t.rx.clockDue = false) ∧
      (s.control ≠ some l → t.rx.clockTaken = s.rx.clockTaken ∧ t.rx.clockDue = s.rx.clockDue) ∧
      (s.control = some l → t.orders.parser = .hunt) ∧ (s.control ≠ some l → t.orders.parser = s.orders.parser) ∧
      t.tx = s.tx ∧ t.slots = s.slots ∧ t.bank = s.bank ∧ t.seq.templates = s.seq.templates ∧ t.su = s.su ∧
      t.sender.transmission = s.sender.transmission ∧ t.pending = s.pending)

/-- LANE PLAN (R9, R10, R11, R14, R15, R88, R138): checks in their order; the plan taken, the qualification count 0, a
restart that stands due left due (R148, log 3); a raised width sends SPARE lanes to HUNT, a lowered one makes lanes at or
above it SPARE with all that a lane loss brings, lane after lane, those the operand names first in its order and the rest
ascending (the model's choice, log 13) and each in the loss order's order (log 6). That an
older SPARE lane of a lost identity stays SPARE at a lowering is the model's reading of R8 and R10 (log 12). -/
def Obligations.LanePlanChangesWidth : Prop :=
  ∀ (s : State) (ref : Byte) (args : List Byte) (o : LossOrder), s.ready = true →
    let w := field8 args 0
    let set := field8 args 1
    let planned : State := { s with rx := { s.rx with restartSet := BitVec.ofNat 4 set, qualCount := 0 } }
    (args.length ≠ 2 → exec (.lanePlan ref args o) s = .next (s.refuse .badLength 0x01 ref (args.length + 2))) ∧
    (args.length = 2 → ((w ≠ 1 ∧ w ≠ 2 ∧ w ≠ 4) ∨ set = 0 ∨ 2 ^ w ≤ set) →
      exec (.lanePlan ref args o) s = .next (s.refuse .badParam 0x01 ref)) ∧
    (args.length = 2 → (w = 1 ∨ w = 2 ∨ w = 4) → 0 < set → set < 2 ^ w →
      (w = s.rx.width → exec (.lanePlan ref args o) s = .next planned) ∧
      (s.rx.width < w → exec (.lanePlan ref args o) s = .next { planned with rx := { planned.rx with
        width := w, lanes := s.rx.lanes.map fun x => if x.align = .spare then huntingLane x.slips else x } }) ∧
      (w < s.rx.width → ∃ t, exec (.lanePlan ref args o) s = .next t ∧
        t.rx.width = w ∧ t.rx.restartSet = BitVec.ofNat 4 set ∧ t.rx.qualCount = 0 ∧ t.rx.armed = s.rx.armed ∧
        t.rx.lanes = s.rx.lanes.map (fun x =>
          if x.align = .aligned ∧ x.identity.any (fun l => decide (w ≤ l)) = true then
            { x with align := .spare, losses := 0, mismatches := 0, store := none, last := none }
          else x) ∧
        (∀ l < 4, w ≤ l → ∀ p, s.map l = some p → t.map l = none ∧ .lane l p .spare ∈ t.sender.urgent ∧
          (∀ k, k / 32 = l → t.ctx k = none) ∧
          (∀ c < 2, ∀ y, s.capture c = some y → y.slot / 32 = l → t.capture c = none)) ∧
        (∀ k, (k / 32 < w ∨ s.map (k / 32) = none) → (t.ctx k).isSome = (s.ctx k).isSome) ∧
        (∀ k, s.control = some k → t.orders.parser = if w ≤ k then .hunt else s.orders.parser) ∧
        (∀ k, s.control = some k → w ≤ k → t.rx.clockTaken = false ∧ t.rx.clockDue = false) ∧
        (∀ k, s.control = some k → k < w → t.rx.clockTaken = s.rx.clockTaken ∧ t.rx.clockDue = s.rx.clockDue) ∧
        t.rx.restarting = s.rx.restarting ∧
        (let lost := (o.lanes ++ List.range 4).eraseDups.filter fun l => decide (l < 4 ∧ w ≤ l) && s.mapped l
         let noted := (lost.flatMap (s.lossNotices o)).foldl State.queueOrdinary s
         t.sender.ordinary.map Notice.unskipped = noted.sender.ordinary.map Notice.unskipped ∧
         t.sender.drops = noted.sender.drops ∧
         (s.pool.queue = [] → t.sender.ordinary = noted.sender.ordinary)) ∧
        t.tx = s.tx ∧ t.slots = s.slots ∧ t.bank = s.bank ∧ t.seq.templates = s.seq.templates ∧ t.su = s.su ∧
        t.sender.transmission = s.sender.transmission ∧ t.pending = s.pending))

/-- FRAME_EVENT completes for every order of its acts, and sends a frame on every outbound lane (R16, R37 to R40): the
framing byte, the unmapped frame, and the byte of every slot that had no programme when it arrived. Where no frame event
can occur, none does (log 28). -/
def Obligations.FrameEventSendsFrames : Prop :=
  ∀ (s : State) (schedule : List Act), s.quiet = true →
    (s.frameDue = false → exec (.frameEvent schedule) s = .next s) ∧
    (s.frameDue = true → s.inStore → ∃ t, exec (.frameEvent schedule) s = .next t ∧
      t.tx.next = (match s.tx.next with | .a => .b | .b => .a) ∧ t.tx.frames.length = 4 ∧ t.pending = s.pending ∧
      (∀ p < 4, (∀ l < 4, s.map l ≠ some p) → t.tx.frames[p]? = some
        ⟨match s.tx.next with | .a => 0x2D | .b => 0xCF, 0xFF, List.replicate 32 0x00⟩) ∧
      ∀ p < 4, ∀ l < 4, s.map l = some p → ∃ f, t.tx.frames[p]? = some f ∧
        f.framing = (match s.tx.next with | .a => 0x2D | .b => BitVec.ofNat 8 (0xC0 + l)) ∧ f.slots.length = 32 ∧
        ∀ n < 32, s.ctx (32 * l + n) = none → ∀ e, s.slots[32 * l + n]? = some e →
          (e.base = .mute → f.slots[n]? = some 0x00) ∧
          (e.base = .through → ∀ x held, s.lane p = some x → contributes x held →
            f.slots[n]? = some (held.frame.slots.getD n 0x00)))

/-- FRAME_EVENT with no act brought forward (R28, R33, R41, R42, R59, R69, R75, R76, R77, R107, R108, R110, R117, R118). In
ascending order of slots each context has its turn: one that is PENDING goes on, the output is formed, the record counts
(R75). Then every head that was RUNNING or LINGER at the arrival and has not been started since reads its byte, hands on its
sample and advances, with the cycles of its hearers; the head and wait timers count (R110); the tone phases advance. With no
context PENDING all of this is said by the state before. That the acts come in the standing order (log 5), and that the
endings they bring about (R77, R115, R117, R118, R120, R123) are left due, each for its own command (log 3, unsafe), is the
model's choice. -/
def Obligations.FrameEventRunsProgrammes : Prop :=
  ∀ s : State, s.quiet = true → s.frameDue = true → s.inStore → s.seq.contexts.length = 128 →
    let u := s.upTo 128
    ∃ t, exec (.frameEvent []) s = .next t ∧ t.slots = s.slots ∧ t.seq.templates = s.seq.templates ∧
      t.su = { s.su with store := t.su.store } ∧
      t.bank = { s.bank with tones := s.bank.tones.map fun e =>
        ⟨{ e.one with phase := (e.one.phase + e.one.inc) % 65536 },
          { e.two with phase := (e.two.phase + e.two.inc) % 65536 }⟩ } ∧
      (∀ l < 4, ∀ p, s.map l = some p → ∀ x held, s.lane p = some x → contributes x held → ∀ n < 32, ∀ c,
        s.ctx (32 * l + n) = some c → ∃ f, t.tx.frames[p]? = some f ∧ f.slots[n]? = some
          (insertedByte c.mode (held.frame.slots.getD n 0x00) (s.slots.getD (32 * l + n) ⟨.through, 0⟩).pad
            (s.soundOf t (32 * l + n)))) ∧
      (∀ h < 24, u.headRun h = none → t.head h = { run := none, sample := none }) ∧
      (∀ h < 24, ∀ r, u.headRun h = some r →
        let phase : HeadPhase := if r.counts = false then r.phase else match r.phase with
          | .gathering n => .gathering (n - 1)
          | .running => .running
          | .linger n => .linger (n - 1)
        (r.toRead → t.head h = {
          run := some { r with phase, offset := r.offsetAfter, hasRead := true, counts := false }
          sample := some (phraseSample (storeRead s.su.store (r.start + r.offset)) r.trim) }) ∧
        (¬ r.toRead → t.head h = { run := some { r with phase, counts := false }, sample := none })) ∧
      t.pool.queue = u.pool.queue.map (fun w =>
        { w with timer := if w.counts then w.timer - 1 else w.timer, counts := false }) ∧
      (∀ k, u.ctx k = none → t.ctx k = none) ∧
      (∀ k e, u.ctx k = some e →
        let counts : Prop := e.hears = true ∧ e.cycles ≠ 0 ∧ ∃ h < 24, ∃ r, e.head = some h ∧ u.headRun h = some r ∧
          r.mode = .cyclic ∧ r.toRead ∧ e.mark = r.offsetAfter
        (counts → t.ctx k = some { e with cycles := e.cycles - 1, finished := e.cycles == 1 }) ∧
        (¬ counts → t.ctx k = some e)) ∧
      ((∀ k c, s.ctx k = some c → c.state ≠ .pending) →
        (∀ l < 4, ∀ p, s.map l = some p → ∀ x held, s.lane p = some x → contributes x held → ∀ n < 32, ∀ c,
          s.ctx (32 * l + n) = some c → ∃ f, t.tx.frames[p]? = some f ∧ f.slots[n]? = some
            (insertedByte c.mode (held.frame.slots.getD n 0x00) (s.slots.getD (32 * l + n) ⟨.through, 0⟩).pad
              (s.outputOf c))) ∧
        (∀ h < 24, ∀ r, s.headRun h = some r → (∀ timer, r.phase ≠ .gathering timer) →
          (t.head h).sample = some (s.headOutput h) ∧
          ∃ q, t.headRun h = some q ∧ q.phrase = r.phrase ∧ q.start = r.start ∧ q.length = r.length ∧
            q.offset = (if r.mode = .cyclic ∧ r.length ≤ r.offset + 1 then 0 else r.offset + 1)) ∧
        (∀ h < 24, ∀ r, s.headRun h = some r → ∃ q, t.headRun h = some q ∧ q.phase = (match r.phase with
          | .gathering n => .gathering (n - 1)
          | .running => .running
          | .linger n => .linger (n - 1))) ∧
        t.pool.queue = s.pool.queue.map (fun w => { w with timer := w.timer - 1, counts := false }) ∧
        ∀ k c, s.ctx k = some c → ∃ d, t.ctx k = some d ∧ d.state = c.state ∧ d.step = c.step ∧ d.head = c.head ∧
          d.remaining = (if c.state = .timed then c.remaining.map fun n => n - 1 else c.remaining) ∧
          d.position = (match s.cadenceOf c with
            | some pairs => advancePosition pairs c.position
            | none => c.position) ∧
          (∀ h < 24, ∀ r, c.state = .playing → c.head = some h → s.headRun h = some r → r.mode = .cyclic →
            (∀ timer, r.phase ≠ .gathering timer) →
            d.cycles = if c.mark = (if r.length ≤ r.offset + 1 then 0 else r.offset + 1) then c.cycles - 1
              else c.cycles))

/-- FRAME_EVENT with no act brought forward (R12, R13, R17, R133, R134, R142, R156, R157, R158, R159): what it takes from the
elastic stores, with the repeat slip; the restart qualification; the control lane's service byte to the parser; the byte of a
report in transmission on every mapped lane, or idle fill after a restart; the choice of a report where nothing is in
transmission, behind the contexts' turns and the parser or, by the act offerByte, ahead of them (log 15, the model's choice),
with its start byte on every mapped lane; and the byte of every active channel. That the acts come
in the standing order (log 5), and that a restart, a completed message, an ended recording and a report whose check byte has
been offered are left due, each for its own command (log 3, unsafe), is the model's choice. -/
def Obligations.FrameEventReceives : Prop :=
  ∀ s : State, s.quiet = true → s.frameDue = true → s.inStore → ∃ t, exec (.frameEvent []) s = .next t ∧
    t.rx.lanes = s.rx.lanes.map (fun x => if x.align ≠ .aligned then x else { x with
      store := none
      last := if x.store = none then x.last else x.store
      slips := if x.store = none ∧ x.last ≠ none then min 255 (x.slips + 1) else x.slips }) ∧
    t.rx.width = s.rx.width ∧ t.rx.restartSet = s.rx.restartSet ∧ t.rx.clockTaken = s.rx.clockTaken ∧
    t.rx.clockDue = false ∧
    (∀ holds : Bool, (holds = true ↔ ∀ l < 4, s.rx.restartSet.getLsbD l = true →
        ∃ p x held, s.map l = some p ∧ s.lane p = some x ∧ contributes x held ∧ held.suspect = false ∧
          held.frame.service = 0x5A) →
      t.rx.qualCount = (if s.rx.armed && holds then s.rx.qualCount + 1 else 0) ∧
      t.rx.armed = (s.rx.armed || !holds) ∧
      t.rx.restarting = (s.rx.armed && holds && decide (1599 ≤ s.rx.qualCount))) ∧
    (∀ l p x held, s.control = some l → s.map l = some p → s.lane p = some x → contributes x held →
      t.orders = (s.parseByte held.frame.service held.suspect).orders) ∧
    (s.control = none → t.orders = s.orders) ∧
    (∀ x b, s.sender.hold = false → s.sender.transmission = some x → x.bytes[x.position]? = some b →
      t.sender.transmission = some { x with position := x.position + 1 } ∧
      ∀ p < 4, ∀ l < 4, s.map l = some p → (t.tx.frames[p]?).map LaneFrame.service = some b) ∧
    (s.sender.hold = true → t.sender.hold = false ∧ t.sender.transmission = s.sender.transmission ∧
      ∀ p < 4, (t.tx.frames[p]?).map LaneFrame.service = some 0xFF) ∧
    (let offered (t : State) (b : Byte) : Prop :=
      ∀ p < 4, ∀ l < 4, s.map l = some p → (t.tx.frames[p]?).map LaneFrame.service = some b
     s.sender.hold = false → s.sender.transmission = none →
      (s.control = none → t.sender = (s.upTo 128).sender) ∧
      (∀ l p x held, s.control = some l → s.map l = some p → s.lane p = some x → contributes x held →
        let v := (s.upTo 128).parseByte held.frame.service held.suspect
        (v.sender.urgent = [] → v.sender.ordinary = [] → t.sender = v.sender ∧ offered t 0xFF) ∧
        ∀ body urgent ordinary sent, v.chooses body urgent ordinary sent →
          t.sender = { v.sender with urgent, ordinary, drops := 0, transmission := some ⟨messageOf body, 1⟩ } ∧
          t.pool.sentBegin = sent ∧ offered t 0xA5) ∧
      (s.control ≠ none → ∃ first, exec (.frameEvent [.offerByte]) s = .next first ∧
        (s.sender.urgent = [] → s.sender.ordinary = [] → first.sender.transmission = none ∧ offered first 0xFF) ∧
        ∀ body urgent ordinary sent, s.chooses body urgent ordinary sent →
          first.sender.transmission = some ⟨messageOf body, 1⟩ ∧ first.pool.sentBegin = sent ∧ offered first 0xA5)) ∧
    (∀ c < 2, ∀ y p x held, s.capture c = some y → s.map (y.slot / 32) = some p → s.lane p = some x →
      contributes x held →
      let b := held.frame.slots.getD (y.slot % 32) 0x00
      let loud := !held.suspect && decide (y.threshold ≤ (decodeCode b).natAbs)
      (∀ timer, y.phase = .waitingVoice timer → loud = false →
        t.capture c = some { y with phase := .waitingVoice (timer - 1), todo := false }) ∧
      (y.phase = .recording ∨ loud = true →
        t.capture c = some { y with
          phase := .recording, todo := false, written := y.written + 1
          lastLoud := if loud then some y.written else y.lastLoud
          quiet := if loud then 0 else y.quiet + 1
          suspects := if held.suspect then y.suspects + 1 else y.suspects } ∧
        (s.storeLaw → (∀ d < 2, ∀ z, d ≠ c → s.capture d = some z → z.start + z.written ≠ y.start + y.written) →
          storeRead t.su.store (y.start + y.written) = if held.suspect then 0x00 else b))) ∧
    ∀ a, (∀ c < 2, ∀ y, s.capture c = some y → y.start + y.written ≠ a) →
      storeRead t.su.store a = storeRead s.su.store a

/-- RESTART (R17, R19, R49, R62, R89, R104, R127, R139, R148, R159): the tables and plans the processor has loaded are kept,
the lanes go on, and everything that was running is cleared. It comes where the count has reached 1600, a LANE PLAN taken
since or not (R148); that the row does nothing where no restart stands due is the model's choice (log 3). -/
def Obligations.RestartKeepsLoadedTables : Prop :=
  ∀ s : State,
    (s.rx.restarting = false → exec .restart s = .next s) ∧
    (s.rx.restarting = true → s.endingsQuiet = true → ∃ t, exec .restart s = .next t ∧
      t.rx = { s.rx with
        lanes := s.rx.lanes.map (fun x => { x with slips := 0 }), qualCount := 0, armed := false, restarting := false } ∧
      t.tx = s.tx ∧ t.slots = List.replicate s.slots.length ⟨.through, 0⟩ ∧
      t.bank.cadences = s.bank.cadences ∧
      t.bank.tones = s.bank.tones.map (fun e => ⟨{ e.one with phase := 0 }, { e.two with phase := 0 }⟩) ∧
      t.seq.templates = s.seq.templates ∧ (∀ k, t.ctx k = none) ∧
      t.su = { s.su with
        directory := s.su.directory.map (Option.map fun e =>
          { e with state := if e.state = .valid then .unchecked else e.state })
        gate := if s.su.mapLoaded then .closedCheck else .closedBoth } ∧
      (∀ h, t.headRun h = none) ∧ t.pool.queue = [] ∧ t.pool.gatherWindow = s.pool.gatherWindow ∧
      t.pool.lingerTime = s.pool.lingerTime ∧ t.pool.waitLimit = s.pool.waitLimit ∧ t.shortageMark = false ∧
      (∀ c, t.capture c = none) ∧ t.orders = s.orders ∧
      t.sender = { urgent := [.restarted true], ordinary := [], drops := 0, transmission := none, hold := true } ∧
      t.pending = s.pending)

/-! ### Queries and reports -/

/-- The six QUERY rows (R152): BAD_LENGTH, BAD_PARAM for a number outside the subject's range, else one STATUS notice with the
subject's part; nothing else changes. -/
def Obligations.QueriesAnswerOnce : Prop :=
  ∀ (s : State) (ref : Byte) (args : List Byte) (i : Instr) (subject last : Nat) (part : Nat → List Byte),
    s.ready = true →
    (i, subject, last, part) ∈ [(.querySlot ref args, 0, 127, s.slotPart), (.queryHead ref args, 1, 23, s.headPart),
      (.queryCapture ref args, 2, 1, s.capturePart), (.queryTone ref args, 3, 31, s.tonePart),
      (.queryPhrase ref args, 4, 511, s.phrasePart), (.querySummary ref args, 5, 65535, fun _ => s.summaryPart)] →
    exec i s = .next (
      if args.length ≠ 2 then s.refuse .badLength 0x50 ref (args.length + 3)
      else if last < field16 args 0 then s.refuse .badParam 0x50 ref
      else s.queueOrdinary (.status ref subject (field16 args 0) (part (field16 args 0))))

/-- The contents of the reports after kind and drop count (section 12.5; R160), `waiters` being the wait queue's length as the
report begins, the numeric codes (section 12.7), and the STATUS parts (section 12.6; R36, R50, R63, R90, R105, R128, R140,
R152, R161): lengths and fields in order. -/
def Obligations.ReportsFollowLayouts : Prop :=
  (∀ waiters : Nat,
      (∀ pattern, (Notice.restarted pattern).kindByte = 0x81 ∧
        (Notice.restarted pattern).content waiters = [if pattern then 1 else 0]) ∧
      (∀ l p news, (Notice.lane l p news).kindByte = 0x82 ∧ (Notice.lane l p news).content waiters =
        le8 l ++ le8 p ++ [(match news with | .aligned => 0 | .spare => 1 | .lost => 2 : Byte)]) ∧
      (Notice.shortageBegin.kindByte = 0x83 ∧ Notice.shortageBegin.content waiters = le8 waiters) ∧
      (Notice.shortageEnd.kindByte = 0x84 ∧ Notice.shortageEnd.content waiters = []) ∧
      (∀ cause order detail, (Notice.refused cause order detail).kindByte = 0x90 ∧
        (Notice.refused cause order detail).content waiters = le8 cause.code ++ (match order with
          | some (code, ref) => [1, code, ref]
          | none => [0, 0, 0]) ++ le16 detail) ∧
      (∀ ref subject number part, (Notice.status ref subject number part).kindByte = 0x91 ∧
        (Notice.status ref subject number part).content waiters = ref :: (le8 subject ++ le16 number ++ part)) ∧
      (∀ ref valid invalid lowest, (Notice.checked ref valid invalid lowest).kindByte = 0x92 ∧
        (Notice.checked ref valid invalid lowest).content waiters =
          ref :: (le16 valid ++ le16 invalid ++ le16 lowest)) ∧
      (∀ channel phrase cause length suspects, (Notice.captureEnd channel phrase cause length suspects).kindByte = 0x93 ∧
        (Notice.captureEnd channel phrase cause length suspects).content waiters =
          le8 channel ++ le16 phrase ++ le8 cause.code ++ le24 length ++ le24 suspects)) ∧
  ([.garbled, .unknownOrder, .badLength, .badSlot, .laneAbsent, .laneDown, .busy, .idle, .noContext, .noTemplate,
    .tagInUse, .badParam, .inUse, .badTemplate, .badWindow, .badPhrase, .noMap, .notRecordable, .overlap,
    .captureBusy].map Cause.code = [1, 2, 3, 4, 5, 6, 7, 8, 9, 10, 11, 12, 13, 14, 15, 16, 17, 18, 19, 20] ∧
   [.completed, .stopped, .preempted, .laneLost].map EndCause.code = [0, 1, 2, 3] ∧
   [.full, .silence, .stopped, .empty, .noVoice, .laneLost, .mapChanged].map CaptureCause.code = [0, 1, 2, 3, 4, 5, 6] ∧
   [.hunt, .check, .aligned, .spare].map Align.code = [0, 1, 2, 3] ∧
   [.timed, .gatherWait, .playing, .waiting, .pending].map StepState.code = [0, 1, 2, 3, 4] ∧
   [.replace, .overlay].map Insertion.code = [2, 3]) ∧
  ∀ s : State,
    (∀ k e, s.slots[k]? = some e →
      let base : Byte := match e.base with | .through => 0 | .mute => 1
      let effective : Byte := match s.ctx k with
        | some c => (match c.mode with | .replace => 2 | .overlay => 3)
        | none => base
      let front : List Byte := [base, BitVec.ofNat 8 e.pad, if s.map (k / 32) = none then 0 else 1,
        if s.map (k / 32) = none then base else effective]
      (s.ctx k = none → s.slotPart k = front ++ [0]) ∧
      (∀ c, s.ctx k = some c → (s.slotPart k).length = 19 ∧
        s.slotPart k = front ++ (1 : Byte) :: (le8 c.template ++ le8 c.mode.code ++ le8 c.step ++ le8 c.state.code ++
          le24 (if c.state ≠ .timed then 0 else match c.remaining with | some n => n | none => 0xFFFFFF) ++
          le8 c.params.length ++ le8 c.cursor ++ le8 c.digitsLeft ++
          le8 (match c.head with | some h => h | none => if c.state = .waiting then 0xFE else 0xFF) ++
          le8 (match c.tag with | some tag => tag | none => 0) ++ le8 c.skipped ++
          [(if c.fellBack then 1 else 0 : Byte)]))) ∧
    (∀ h, s.headRun h = none → s.headPart h = [0]) ∧
    (∀ h r, s.headRun h = some r → (s.headPart h).length = 18 ∧ ∃ (code mode : Byte) (timer : Nat),
      s.headPart h = [code, mode] ++ le16 r.phrase ++ le24 r.start ++ le24 r.length ++ le8 r.trim ++ le24 r.offset ++
        le8 (s.subscribers h).length ++ le24 timer ∧
      mode = (match r.mode with | .once => 0 | .cyclic => 1) ∧
      (code, timer) = (match r.phase with | .gathering n => (1, n) | .running => (2, 0) | .linger n => (3, n))) ∧
    (∀ c, s.capture c = none → s.capturePart c = [0]) ∧
    (∀ c x, s.capture c = some x → (s.capturePart c).length = 31 ∧ ∃ (code : Byte) (timer : Nat) (quiet : List Byte),
      s.capturePart c = code :: (le8 x.slot ++ le16 x.phrase ++ le8 x.window ++ le24 x.offset ++ le24 x.start ++
        le24 x.limit ++ le16 x.threshold ++ le24 timer ++ le8 x.silenceHold ++ le24 x.written ++
        le24 (match x.lastLoud with | some q => q | none => 0xFFFFFF) ++ quiet ++ le24 x.suspects) ∧
      quiet.length = 2 ∧ (x.quiet < 65536 → quiet = le16 x.quiet) ∧
      (code, timer) = (match x.phase with | .waitingVoice n => (1, n) | .recording => (2, 0))) ∧
    (∀ n e, s.bank.tones[n]? = some e → s.tonePart n =
      le16 e.one.freq ++ le16 e.one.amp ++ le16 e.one.inc ++ le16 e.two.freq ++ le16 e.two.amp ++ le16 e.two.inc) ∧
    (∀ p, ∃ gate playable : Byte, gate = (match s.su.gate with | .closedBoth => 0 | .closedCheck => 1 | .isOpen => 2) ∧
      playable = (if s.playable p then 1 else 0) ∧
      (s.entry p = none → s.phrasePart p = List.replicate 9 0 ++ [gate, playable]) ∧
      (∀ e, s.entry p = some e → ∃ code : Byte, s.phrasePart p =
          code :: (le8 e.window ++ le24 e.offset ++ le24 e.length ++ le8 e.trim ++ [gate, playable]) ∧
        code = (match e.state with | .unchecked => 1 | .valid => 2 | .invalid => 3))) ∧
    (s.rx.lanes.length = 4 → s.summaryPart.length = 33) ∧
    let heads (is : Option HeadRun → Bool) : Nat := (List.range 24).countP fun h => is (s.headRun h)
    s.summaryPart =
      (s.rx.lanes.flatMap fun x => [(match x.align with | .hunt => 0 | .check => 1 | .aligned => 2 | .spare => 3 : Byte)] ++
        le8 (match x.identity with | some l => l | none => 0xFF) ++ le8 x.slips) ++
      ([0, 1, 2, 3].flatMap fun l => le8 (match s.map l with | some p => p | none => 0xFF)) ++
      le8 (match s.control with | some l => l | none => 0xFF) ++ le8 s.rx.width ++ le8 s.rx.restartSet.toNat ++
      le8 ((List.range 128).countP fun k => (s.ctx k).isSome) ++
      [(match s.su.gate with | .closedBoth => 0 | .closedCheck => 1 | .isOpen => 2 : Byte),
        if s.su.mapLoaded then 1 else 0] ++
      le8 (heads fun r => r.isNone) ++
      le8 (heads fun r => r.any fun x => match x.phase with | .gathering _ => true | _ => false) ++
      le8 (heads fun r => r.any fun x => match x.phase with | .running => true | _ => false) ++
      le8 (heads fun r => r.any fun x => match x.phase with | .linger _ => true | _ => false) ++
      le8 s.pool.queue.length ++ le8 s.pool.gatherWindow ++ le8 s.pool.lingerTime ++ le8 s.pool.waitLimit ++
      [if s.shortageMark then 1 else 0] ++
      le8 ((s.capture 0).toList.length + (s.capture 1).toList.length) ++ le8 s.sender.ordinary.length

/-- Notices find their places (R154, R155): an ordinary one at the end, or dropped and counted where 64 wait; a LANE notice
in the place of an unsent one for the same physical lane, else at the end. -/
def Obligations.NoticesFindTheirPlaces : Prop :=
  (∀ (s : State) (n : Notice),
    (s.sender.ordinary.length < 64 →
      s.queueOrdinary n = { s with sender := { s.sender with ordinary := s.sender.ordinary ++ [n] } }) ∧
    (64 ≤ s.sender.ordinary.length →
      s.queueOrdinary n = { s with sender := { s.sender with drops := min 255 (s.sender.drops + 1) } })) ∧
  ∀ (before after : List Notice) (l k p : Nat) (m news : LaneNews), (∀ j q, .lane j p q ∉ before) →
    placeLane before l p news = before ++ [.lane l p news] ∧
    placeLane (before ++ .lane k p m :: after) l p news = before ++ .lane l p news :: after

/-- REPORT_BEGIN and REPORT_COMPLETE (R125, R156, R157, R158, R160): the oldest urgent notice, else the oldest ordinary one,
END notices up to eight together, is framed with the drop count; the sender offers its bytes in order; after the check byte
the message is absent. Where no frame event is due or no lane mapped, while a message is in transmission and at the first
frame event after a restart no report begins. That REPORT_BEGIN is the choice of the frame event that is due ahead of its
other acts, and that an order commanded behind it is taken at that frame event, after its work (log 15), and that
REPORT_COMPLETE does nothing before the check byte has been offered (log 3), is the model's choice. -/
def Obligations.ReportsBeginAndComplete : Prop :=
  (∀ s : State, s.quiet = true →
    (s.frameDue = false ∨ s.control = none ∨ s.sender.transmission ≠ none ∨ s.sender.hold = true) →
    exec .reportBegin s = .next s) ∧
  (∀ s : State, s.quiet = true → s.frameDue = true → s.control ≠ none → s.sender.transmission = none →
    s.sender.hold = false →
    (s.sender.urgent = [] → s.sender.ordinary = [] → exec .reportBegin s = .next s) ∧
    ∀ body urgent ordinary sent, s.chooses body urgent ordinary sent → exec .reportBegin s = .next { s with
      sender := { s.sender with urgent, ordinary, drops := 0, transmission := some ⟨messageOf body, 0⟩ }
      pool := { s.pool with sentBegin := sent } }) ∧
  (∀ (s t : State) (i : Instr) (body : List Byte), s.frameBegun = true → i.wf = true → encodeBody i = some body →
    exec (.frameEvent []) s = .next t → exec i s = exec i t) ∧
  (∀ (s : State) (x : Transmission), s.sender.transmission = some x → s.sender.hold = false →
    (∀ b mapped, x.bytes[x.position]? = some b → s.offerByte mapped =
      ({ s with sender := { s.sender with transmission := some { x with position := x.position + 1 } } }, b)) ∧
    (x.position = x.bytes.length → exec .reportComplete s = .next { s with sender := { s.sender with
      transmission := none } }) ∧
    (x.position ≠ x.bytes.length → exec .reportComplete s = .next s))
end

