-- ==== Sys2Proof/Laws/State.lean ====
section
/-! SUPPORT. One lemma for each field of the state under each plain update, true by unfolding, so that no later proof
unfolds a record update. -/

namespace Sys2Proof.Machine

/-! ### setLanes and modifyLane -/

@[simp] theorem State.setLanes_tx (s : State) (lanes : List Lane) : (s.setLanes lanes).tx = s.tx := rfl
@[simp] theorem State.setLanes_slots (s : State) (lanes : List Lane) : (s.setLanes lanes).slots = s.slots := rfl
@[simp] theorem State.setLanes_bank (s : State) (lanes : List Lane) : (s.setLanes lanes).bank = s.bank := rfl
@[simp] theorem State.setLanes_seq (s : State) (lanes : List Lane) : (s.setLanes lanes).seq = s.seq := rfl
@[simp] theorem State.setLanes_su (s : State) (lanes : List Lane) : (s.setLanes lanes).su = s.su := rfl
@[simp] theorem State.setLanes_pool (s : State) (lanes : List Lane) : (s.setLanes lanes).pool = s.pool := rfl
@[simp] theorem State.setLanes_caps (s : State) (lanes : List Lane) : (s.setLanes lanes).caps = s.caps := rfl
@[simp] theorem State.setLanes_orders (s : State) (lanes : List Lane) : (s.setLanes lanes).orders = s.orders := rfl
@[simp] theorem State.setLanes_sender (s : State) (lanes : List Lane) : (s.setLanes lanes).sender = s.sender := rfl
@[simp] theorem State.setLanes_pending (s : State) (lanes : List Lane) : (s.setLanes lanes).pending = s.pending := rfl
@[simp] theorem State.setLanes_rx_width (s : State) (lanes : List Lane) : (s.setLanes lanes).rx.width = s.rx.width := rfl
@[simp] theorem State.setLanes_rx_restartSet (s : State) (lanes : List Lane) : (s.setLanes lanes).rx.restartSet = s.rx.restartSet := rfl
@[simp] theorem State.setLanes_rx_qualCount (s : State) (lanes : List Lane) : (s.setLanes lanes).rx.qualCount = s.rx.qualCount := rfl
@[simp] theorem State.setLanes_rx_armed (s : State) (lanes : List Lane) : (s.setLanes lanes).rx.armed = s.rx.armed := rfl
@[simp] theorem State.setLanes_rx_clockTaken (s : State) (lanes : List Lane) : (s.setLanes lanes).rx.clockTaken = s.rx.clockTaken := rfl
@[simp] theorem State.setLanes_rx_clockDue (s : State) (lanes : List Lane) : (s.setLanes lanes).rx.clockDue = s.rx.clockDue := rfl
@[simp] theorem State.setLanes_rx_restarting (s : State) (lanes : List Lane) : (s.setLanes lanes).rx.restarting = s.rx.restarting := rfl
@[simp] theorem State.setLanes_lanes (s : State) (lanes : List Lane) : (s.setLanes lanes).rx.lanes = lanes := rfl
@[simp] theorem State.modifyLane_tx (s : State) (p : Nat) (f : Lane → Lane) : (s.modifyLane p f).tx = s.tx := rfl
@[simp] theorem State.modifyLane_slots (s : State) (p : Nat) (f : Lane → Lane) : (s.modifyLane p f).slots = s.slots := rfl
@[simp] theorem State.modifyLane_bank (s : State) (p : Nat) (f : Lane → Lane) : (s.modifyLane p f).bank = s.bank := rfl
@[simp] theorem State.modifyLane_seq (s : State) (p : Nat) (f : Lane → Lane) : (s.modifyLane p f).seq = s.seq := rfl
@[simp] theorem State.modifyLane_su (s : State) (p : Nat) (f : Lane → Lane) : (s.modifyLane p f).su = s.su := rfl
@[simp] theorem State.modifyLane_pool (s : State) (p : Nat) (f : Lane → Lane) : (s.modifyLane p f).pool = s.pool := rfl
@[simp] theorem State.modifyLane_caps (s : State) (p : Nat) (f : Lane → Lane) : (s.modifyLane p f).caps = s.caps := rfl
@[simp] theorem State.modifyLane_orders (s : State) (p : Nat) (f : Lane → Lane) : (s.modifyLane p f).orders = s.orders := rfl
@[simp] theorem State.modifyLane_sender (s : State) (p : Nat) (f : Lane → Lane) : (s.modifyLane p f).sender = s.sender := rfl
@[simp] theorem State.modifyLane_pending (s : State) (p : Nat) (f : Lane → Lane) : (s.modifyLane p f).pending = s.pending := rfl
@[simp] theorem State.modifyLane_rx_width (s : State) (p : Nat) (f : Lane → Lane) : (s.modifyLane p f).rx.width = s.rx.width := rfl
@[simp] theorem State.modifyLane_rx_restartSet (s : State) (p : Nat) (f : Lane → Lane) : (s.modifyLane p f).rx.restartSet = s.rx.restartSet := rfl
@[simp] theorem State.modifyLane_rx_qualCount (s : State) (p : Nat) (f : Lane → Lane) : (s.modifyLane p f).rx.qualCount = s.rx.qualCount := rfl
@[simp] theorem State.modifyLane_rx_armed (s : State) (p : Nat) (f : Lane → Lane) : (s.modifyLane p f).rx.armed = s.rx.armed := rfl
@[simp] theorem State.modifyLane_rx_clockTaken (s : State) (p : Nat) (f : Lane → Lane) : (s.modifyLane p f).rx.clockTaken = s.rx.clockTaken := rfl
@[simp] theorem State.modifyLane_rx_clockDue (s : State) (p : Nat) (f : Lane → Lane) : (s.modifyLane p f).rx.clockDue = s.rx.clockDue := rfl
@[simp] theorem State.modifyLane_rx_restarting (s : State) (p : Nat) (f : Lane → Lane) : (s.modifyLane p f).rx.restarting = s.rx.restarting := rfl
@[simp] theorem State.modifyLane_lanes (s : State) (p : Nat) (f : Lane → Lane) : (s.modifyLane p f).rx.lanes = s.rx.lanes.modify p f := rfl

/-! ### setContexts, setCtx, modifyCtx -/

@[simp] theorem State.setContexts_rx (s : State) (contexts : List (Option Ctx)) : (s.setContexts contexts).rx = s.rx := rfl
@[simp] theorem State.setContexts_tx (s : State) (contexts : List (Option Ctx)) : (s.setContexts contexts).tx = s.tx := rfl
@[simp] theorem State.setContexts_slots (s : State) (contexts : List (Option Ctx)) : (s.setContexts contexts).slots = s.slots := rfl
@[simp] theorem State.setContexts_bank (s : State) (contexts : List (Option Ctx)) : (s.setContexts contexts).bank = s.bank := rfl
@[simp] theorem State.setContexts_su (s : State) (contexts : List (Option Ctx)) : (s.setContexts contexts).su = s.su := rfl
@[simp] theorem State.setContexts_pool (s : State) (contexts : List (Option Ctx)) : (s.setContexts contexts).pool = s.pool := rfl
@[simp] theorem State.setContexts_caps (s : State) (contexts : List (Option Ctx)) : (s.setContexts contexts).caps = s.caps := rfl
@[simp] theorem State.setContexts_orders (s : State) (contexts : List (Option Ctx)) : (s.setContexts contexts).orders = s.orders := rfl
@[simp] theorem State.setContexts_sender (s : State) (contexts : List (Option Ctx)) : (s.setContexts contexts).sender = s.sender := rfl
@[simp] theorem State.setContexts_pending (s : State) (contexts : List (Option Ctx)) : (s.setContexts contexts).pending = s.pending := rfl
@[simp] theorem State.setContexts_seq_templates (s : State) (contexts : List (Option Ctx)) : (s.setContexts contexts).seq.templates = s.seq.templates := rfl
@[simp] theorem State.setContexts_contexts (s : State) (contexts : List (Option Ctx)) : (s.setContexts contexts).seq.contexts = contexts := rfl
@[simp] theorem State.setCtx_rx (s : State) (slot : Nat) (c : Option Ctx) : (s.setCtx slot c).rx = s.rx := rfl
@[simp] theorem State.setCtx_tx (s : State) (slot : Nat) (c : Option Ctx) : (s.setCtx slot c).tx = s.tx := rfl
@[simp] theorem State.setCtx_slots (s : State) (slot : Nat) (c : Option Ctx) : (s.setCtx slot c).slots = s.slots := rfl
@[simp] theorem State.setCtx_bank (s : State) (slot : Nat) (c : Option Ctx) : (s.setCtx slot c).bank = s.bank := rfl
@[simp] theorem State.setCtx_su (s : State) (slot : Nat) (c : Option Ctx) : (s.setCtx slot c).su = s.su := rfl
@[simp] theorem State.setCtx_pool (s : State) (slot : Nat) (c : Option Ctx) : (s.setCtx slot c).pool = s.pool := rfl
@[simp] theorem State.setCtx_caps (s : State) (slot : Nat) (c : Option Ctx) : (s.setCtx slot c).caps = s.caps := rfl
@[simp] theorem State.setCtx_orders (s : State) (slot : Nat) (c : Option Ctx) : (s.setCtx slot c).orders = s.orders := rfl
@[simp] theorem State.setCtx_sender (s : State) (slot : Nat) (c : Option Ctx) : (s.setCtx slot c).sender = s.sender := rfl
@[simp] theorem State.setCtx_pending (s : State) (slot : Nat) (c : Option Ctx) : (s.setCtx slot c).pending = s.pending := rfl
@[simp] theorem State.setCtx_seq_templates (s : State) (slot : Nat) (c : Option Ctx) : (s.setCtx slot c).seq.templates = s.seq.templates := rfl
@[simp] theorem State.setCtx_contexts (s : State) (slot : Nat) (c : Option Ctx) : (s.setCtx slot c).seq.contexts = s.seq.contexts.set slot c := rfl
@[simp] theorem State.modifyCtx_rx (s : State) (slot : Nat) (f : Ctx → Ctx) : (s.modifyCtx slot f).rx = s.rx := rfl
@[simp] theorem State.modifyCtx_tx (s : State) (slot : Nat) (f : Ctx → Ctx) : (s.modifyCtx slot f).tx = s.tx := rfl
@[simp] theorem State.modifyCtx_slots (s : State) (slot : Nat) (f : Ctx → Ctx) : (s.modifyCtx slot f).slots = s.slots := rfl
@[simp] theorem State.modifyCtx_bank (s : State) (slot : Nat) (f : Ctx → Ctx) : (s.modifyCtx slot f).bank = s.bank := rfl
@[simp] theorem State.modifyCtx_su (s : State) (slot : Nat) (f : Ctx → Ctx) : (s.modifyCtx slot f).su = s.su := rfl
@[simp] theorem State.modifyCtx_pool (s : State) (slot : Nat) (f : Ctx → Ctx) : (s.modifyCtx slot f).pool = s.pool := rfl
@[simp] theorem State.modifyCtx_caps (s : State) (slot : Nat) (f : Ctx → Ctx) : (s.modifyCtx slot f).caps = s.caps := rfl
@[simp] theorem State.modifyCtx_orders (s : State) (slot : Nat) (f : Ctx → Ctx) : (s.modifyCtx slot f).orders = s.orders := rfl
@[simp] theorem State.modifyCtx_sender (s : State) (slot : Nat) (f : Ctx → Ctx) : (s.modifyCtx slot f).sender = s.sender := rfl
@[simp] theorem State.modifyCtx_pending (s : State) (slot : Nat) (f : Ctx → Ctx) : (s.modifyCtx slot f).pending = s.pending := rfl
@[simp] theorem State.modifyCtx_seq_templates (s : State) (slot : Nat) (f : Ctx → Ctx) : (s.modifyCtx slot f).seq.templates = s.seq.templates := rfl
@[simp] theorem State.modifyCtx_contexts (s : State) (slot : Nat) (f : Ctx → Ctx) :
    (s.modifyCtx slot f).seq.contexts = s.seq.contexts.modify slot (Option.map f) := rfl

/-! ### setHeads and setHeadRun -/

@[simp] theorem State.setHeads_rx (s : State) (heads : List Head) : (s.setHeads heads).rx = s.rx := rfl
@[simp] theorem State.setHeads_tx (s : State) (heads : List Head) : (s.setHeads heads).tx = s.tx := rfl
@[simp] theorem State.setHeads_slots (s : State) (heads : List Head) : (s.setHeads heads).slots = s.slots := rfl
@[simp] theorem State.setHeads_bank (s : State) (heads : List Head) : (s.setHeads heads).bank = s.bank := rfl
@[simp] theorem State.setHeads_seq (s : State) (heads : List Head) : (s.setHeads heads).seq = s.seq := rfl
@[simp] theorem State.setHeads_su (s : State) (heads : List Head) : (s.setHeads heads).su = s.su := rfl
@[simp] theorem State.setHeads_caps (s : State) (heads : List Head) : (s.setHeads heads).caps = s.caps := rfl
@[simp] theorem State.setHeads_orders (s : State) (heads : List Head) : (s.setHeads heads).orders = s.orders := rfl
@[simp] theorem State.setHeads_sender (s : State) (heads : List Head) : (s.setHeads heads).sender = s.sender := rfl
@[simp] theorem State.setHeads_pending (s : State) (heads : List Head) : (s.setHeads heads).pending = s.pending := rfl
@[simp] theorem State.setHeads_pool_queue (s : State) (heads : List Head) : (s.setHeads heads).pool.queue = s.pool.queue := rfl
@[simp] theorem State.setHeads_pool_gatherWindow (s : State) (heads : List Head) : (s.setHeads heads).pool.gatherWindow = s.pool.gatherWindow := rfl
@[simp] theorem State.setHeads_pool_lingerTime (s : State) (heads : List Head) : (s.setHeads heads).pool.lingerTime = s.pool.lingerTime := rfl
@[simp] theorem State.setHeads_pool_waitLimit (s : State) (heads : List Head) : (s.setHeads heads).pool.waitLimit = s.pool.waitLimit := rfl
@[simp] theorem State.setHeads_pool_sentBegin (s : State) (heads : List Head) : (s.setHeads heads).pool.sentBegin = s.pool.sentBegin := rfl
@[simp] theorem State.setHeads_heads (s : State) (heads : List Head) : (s.setHeads heads).pool.heads = heads := rfl
@[simp] theorem State.setHeadRun_rx (s : State) (h : Nat) (r : Option HeadRun) : (s.setHeadRun h r).rx = s.rx := rfl
@[simp] theorem State.setHeadRun_tx (s : State) (h : Nat) (r : Option HeadRun) : (s.setHeadRun h r).tx = s.tx := rfl
@[simp] theorem State.setHeadRun_slots (s : State) (h : Nat) (r : Option HeadRun) : (s.setHeadRun h r).slots = s.slots := rfl
@[simp] theorem State.setHeadRun_bank (s : State) (h : Nat) (r : Option HeadRun) : (s.setHeadRun h r).bank = s.bank := rfl
@[simp] theorem State.setHeadRun_seq (s : State) (h : Nat) (r : Option HeadRun) : (s.setHeadRun h r).seq = s.seq := rfl
@[simp] theorem State.setHeadRun_su (s : State) (h : Nat) (r : Option HeadRun) : (s.setHeadRun h r).su = s.su := rfl
@[simp] theorem State.setHeadRun_caps (s : State) (h : Nat) (r : Option HeadRun) : (s.setHeadRun h r).caps = s.caps := rfl
@[simp] theorem State.setHeadRun_orders (s : State) (h : Nat) (r : Option HeadRun) : (s.setHeadRun h r).orders = s.orders := rfl
@[simp] theorem State.setHeadRun_sender (s : State) (h : Nat) (r : Option HeadRun) : (s.setHeadRun h r).sender = s.sender := rfl
@[simp] theorem State.setHeadRun_pending (s : State) (h : Nat) (r : Option HeadRun) : (s.setHeadRun h r).pending = s.pending := rfl
@[simp] theorem State.setHeadRun_pool_queue (s : State) (h : Nat) (r : Option HeadRun) : (s.setHeadRun h r).pool.queue = s.pool.queue := rfl
@[simp] theorem State.setHeadRun_pool_gatherWindow (s : State) (h : Nat) (r : Option HeadRun) : (s.setHeadRun h r).pool.gatherWindow = s.pool.gatherWindow := rfl
@[simp] theorem State.setHeadRun_pool_lingerTime (s : State) (h : Nat) (r : Option HeadRun) : (s.setHeadRun h r).pool.lingerTime = s.pool.lingerTime := rfl
@[simp] theorem State.setHeadRun_pool_waitLimit (s : State) (h : Nat) (r : Option HeadRun) : (s.setHeadRun h r).pool.waitLimit = s.pool.waitLimit := rfl
@[simp] theorem State.setHeadRun_pool_sentBegin (s : State) (h : Nat) (r : Option HeadRun) : (s.setHeadRun h r).pool.sentBegin = s.pool.sentBegin := rfl
@[simp] theorem State.setHeadRun_heads (s : State) (h : Nat) (r : Option HeadRun) :
    (s.setHeadRun h r).pool.heads = s.pool.heads.modify h (fun x => { x with run := r }) := rfl

/-! ### setCapture -/

@[simp] theorem State.setCapture_rx (s : State) (c : Nat) (x : Option Capture) : (s.setCapture c x).rx = s.rx := rfl
@[simp] theorem State.setCapture_tx (s : State) (c : Nat) (x : Option Capture) : (s.setCapture c x).tx = s.tx := rfl
@[simp] theorem State.setCapture_slots (s : State) (c : Nat) (x : Option Capture) : (s.setCapture c x).slots = s.slots := rfl
@[simp] theorem State.setCapture_bank (s : State) (c : Nat) (x : Option Capture) : (s.setCapture c x).bank = s.bank := rfl
@[simp] theorem State.setCapture_seq (s : State) (c : Nat) (x : Option Capture) : (s.setCapture c x).seq = s.seq := rfl
@[simp] theorem State.setCapture_su (s : State) (c : Nat) (x : Option Capture) : (s.setCapture c x).su = s.su := rfl
@[simp] theorem State.setCapture_pool (s : State) (c : Nat) (x : Option Capture) : (s.setCapture c x).pool = s.pool := rfl
@[simp] theorem State.setCapture_orders (s : State) (c : Nat) (x : Option Capture) : (s.setCapture c x).orders = s.orders := rfl
@[simp] theorem State.setCapture_sender (s : State) (c : Nat) (x : Option Capture) : (s.setCapture c x).sender = s.sender := rfl
@[simp] theorem State.setCapture_pending (s : State) (c : Nat) (x : Option Capture) : (s.setCapture c x).pending = s.pending := rfl
@[simp] theorem State.setCapture_caps (s : State) (c : Nat) (x : Option Capture) : (s.setCapture c x).caps = s.caps.set c x := rfl

/-! ### setUrgent -/

@[simp] theorem State.setUrgent_rx (s : State) (urgent : List Notice) : (s.setUrgent urgent).rx = s.rx := rfl
@[simp] theorem State.setUrgent_tx (s : State) (urgent : List Notice) : (s.setUrgent urgent).tx = s.tx := rfl
@[simp] theorem State.setUrgent_slots (s : State) (urgent : List Notice) : (s.setUrgent urgent).slots = s.slots := rfl
@[simp] theorem State.setUrgent_bank (s : State) (urgent : List Notice) : (s.setUrgent urgent).bank = s.bank := rfl
@[simp] theorem State.setUrgent_seq (s : State) (urgent : List Notice) : (s.setUrgent urgent).seq = s.seq := rfl
@[simp] theorem State.setUrgent_su (s : State) (urgent : List Notice) : (s.setUrgent urgent).su = s.su := rfl
@[simp] theorem State.setUrgent_pool (s : State) (urgent : List Notice) : (s.setUrgent urgent).pool = s.pool := rfl
@[simp] theorem State.setUrgent_caps (s : State) (urgent : List Notice) : (s.setUrgent urgent).caps = s.caps := rfl
@[simp] theorem State.setUrgent_orders (s : State) (urgent : List Notice) : (s.setUrgent urgent).orders = s.orders := rfl
@[simp] theorem State.setUrgent_pending (s : State) (urgent : List Notice) : (s.setUrgent urgent).pending = s.pending := rfl
@[simp] theorem State.setUrgent_sender_ordinary (s : State) (urgent : List Notice) : (s.setUrgent urgent).sender.ordinary = s.sender.ordinary := rfl
@[simp] theorem State.setUrgent_sender_drops (s : State) (urgent : List Notice) : (s.setUrgent urgent).sender.drops = s.sender.drops := rfl
@[simp] theorem State.setUrgent_sender_transmission (s : State) (urgent : List Notice) : (s.setUrgent urgent).sender.transmission = s.sender.transmission := rfl
@[simp] theorem State.setUrgent_sender_hold (s : State) (urgent : List Notice) : (s.setUrgent urgent).sender.hold = s.sender.hold := rfl
@[simp] theorem State.setUrgent_urgent (s : State) (urgent : List Notice) : (s.setUrgent urgent).sender.urgent = urgent := rfl

/-! ### setParser -/

@[simp] theorem State.setParser_rx (s : State) (parser : Parser) : (s.setParser parser).rx = s.rx := rfl
@[simp] theorem State.setParser_tx (s : State) (parser : Parser) : (s.setParser parser).tx = s.tx := rfl
@[simp] theorem State.setParser_slots (s : State) (parser : Parser) : (s.setParser parser).slots = s.slots := rfl
@[simp] theorem State.setParser_bank (s : State) (parser : Parser) : (s.setParser parser).bank = s.bank := rfl
@[simp] theorem State.setParser_seq (s : State) (parser : Parser) : (s.setParser parser).seq = s.seq := rfl
@[simp] theorem State.setParser_su (s : State) (parser : Parser) : (s.setParser parser).su = s.su := rfl
@[simp] theorem State.setParser_pool (s : State) (parser : Parser) : (s.setParser parser).pool = s.pool := rfl
@[simp] theorem State.setParser_caps (s : State) (parser : Parser) : (s.setParser parser).caps = s.caps := rfl
@[simp] theorem State.setParser_sender (s : State) (parser : Parser) : (s.setParser parser).sender = s.sender := rfl
@[simp] theorem State.setParser_pending (s : State) (parser : Parser) : (s.setParser parser).pending = s.pending := rfl
@[simp] theorem State.setParser_orders_due (s : State) (parser : Parser) : (s.setParser parser).orders.due = s.orders.due := rfl
@[simp] theorem State.setParser_parser (s : State) (parser : Parser) : (s.setParser parser).orders.parser = parser := rfl

/-! ### queueLane -/

@[simp] theorem State.queueLane_rx (s : State) (l p : Nat) (news : LaneNews) : (s.queueLane l p news).rx = s.rx := rfl
@[simp] theorem State.queueLane_tx (s : State) (l p : Nat) (news : LaneNews) : (s.queueLane l p news).tx = s.tx := rfl
@[simp] theorem State.queueLane_slots (s : State) (l p : Nat) (news : LaneNews) : (s.queueLane l p news).slots = s.slots := rfl
@[simp] theorem State.queueLane_bank (s : State) (l p : Nat) (news : LaneNews) : (s.queueLane l p news).bank = s.bank := rfl
@[simp] theorem State.queueLane_seq (s : State) (l p : Nat) (news : LaneNews) : (s.queueLane l p news).seq = s.seq := rfl
@[simp] theorem State.queueLane_su (s : State) (l p : Nat) (news : LaneNews) : (s.queueLane l p news).su = s.su := rfl
@[simp] theorem State.queueLane_pool (s : State) (l p : Nat) (news : LaneNews) : (s.queueLane l p news).pool = s.pool := rfl
@[simp] theorem State.queueLane_caps (s : State) (l p : Nat) (news : LaneNews) : (s.queueLane l p news).caps = s.caps := rfl
@[simp] theorem State.queueLane_orders (s : State) (l p : Nat) (news : LaneNews) : (s.queueLane l p news).orders = s.orders := rfl
@[simp] theorem State.queueLane_pending (s : State) (l p : Nat) (news : LaneNews) : (s.queueLane l p news).pending = s.pending := rfl
@[simp] theorem State.queueLane_sender_ordinary (s : State) (l p : Nat) (news : LaneNews) : (s.queueLane l p news).sender.ordinary = s.sender.ordinary := rfl
@[simp] theorem State.queueLane_sender_drops (s : State) (l p : Nat) (news : LaneNews) : (s.queueLane l p news).sender.drops = s.sender.drops := rfl
@[simp] theorem State.queueLane_sender_transmission (s : State) (l p : Nat) (news : LaneNews) : (s.queueLane l p news).sender.transmission = s.sender.transmission := rfl
@[simp] theorem State.queueLane_sender_hold (s : State) (l p : Nat) (news : LaneNews) : (s.queueLane l p news).sender.hold = s.sender.hold := rfl
@[simp] theorem State.queueLane_urgent (s : State) (l p : Nat) (news : LaneNews) :
    (s.queueLane l p news).sender.urgent = placeLane s.sender.urgent l p news := rfl

/-! ### loadMap, writeCaptured, writeByte, finishReport -/

@[simp] theorem State.loadMap_rx (s : State) (windows : List Window) : (s.loadMap windows).rx = s.rx := rfl
@[simp] theorem State.loadMap_tx (s : State) (windows : List Window) : (s.loadMap windows).tx = s.tx := rfl
@[simp] theorem State.loadMap_slots (s : State) (windows : List Window) : (s.loadMap windows).slots = s.slots := rfl
@[simp] theorem State.loadMap_bank (s : State) (windows : List Window) : (s.loadMap windows).bank = s.bank := rfl
@[simp] theorem State.loadMap_seq (s : State) (windows : List Window) : (s.loadMap windows).seq = s.seq := rfl
@[simp] theorem State.loadMap_pool (s : State) (windows : List Window) : (s.loadMap windows).pool = s.pool := rfl
@[simp] theorem State.loadMap_caps (s : State) (windows : List Window) : (s.loadMap windows).caps = s.caps := rfl
@[simp] theorem State.loadMap_orders (s : State) (windows : List Window) : (s.loadMap windows).orders = s.orders := rfl
@[simp] theorem State.loadMap_sender (s : State) (windows : List Window) : (s.loadMap windows).sender = s.sender := rfl
@[simp] theorem State.loadMap_pending (s : State) (windows : List Window) : (s.loadMap windows).pending = s.pending := rfl
@[simp] theorem State.loadMap_su_store (s : State) (windows : List Window) : (s.loadMap windows).su.store = s.su.store := rfl
@[simp] theorem State.writeCaptured_rx (s : State) (x : Capture) (n : Nat) : (s.writeCaptured x n).rx = s.rx := rfl
@[simp] theorem State.writeCaptured_tx (s : State) (x : Capture) (n : Nat) : (s.writeCaptured x n).tx = s.tx := rfl
@[simp] theorem State.writeCaptured_slots (s : State) (x : Capture) (n : Nat) : (s.writeCaptured x n).slots = s.slots := rfl
@[simp] theorem State.writeCaptured_bank (s : State) (x : Capture) (n : Nat) : (s.writeCaptured x n).bank = s.bank := rfl
@[simp] theorem State.writeCaptured_seq (s : State) (x : Capture) (n : Nat) : (s.writeCaptured x n).seq = s.seq := rfl
@[simp] theorem State.writeCaptured_pool (s : State) (x : Capture) (n : Nat) : (s.writeCaptured x n).pool = s.pool := rfl
@[simp] theorem State.writeCaptured_caps (s : State) (x : Capture) (n : Nat) : (s.writeCaptured x n).caps = s.caps := rfl
@[simp] theorem State.writeCaptured_orders (s : State) (x : Capture) (n : Nat) : (s.writeCaptured x n).orders = s.orders := rfl
@[simp] theorem State.writeCaptured_sender (s : State) (x : Capture) (n : Nat) : (s.writeCaptured x n).sender = s.sender := rfl
@[simp] theorem State.writeCaptured_pending (s : State) (x : Capture) (n : Nat) : (s.writeCaptured x n).pending = s.pending := rfl
@[simp] theorem State.writeCaptured_su_store (s : State) (x : Capture) (n : Nat) : (s.writeCaptured x n).su.store = s.su.store := rfl
@[simp] theorem State.writeCaptured_su_windows (s : State) (x : Capture) (n : Nat) : (s.writeCaptured x n).su.windows = s.su.windows := rfl
@[simp] theorem State.writeCaptured_su_gate (s : State) (x : Capture) (n : Nat) : (s.writeCaptured x n).su.gate = s.su.gate := rfl
@[simp] theorem State.writeCaptured_su_mapLoaded (s : State) (x : Capture) (n : Nat) : (s.writeCaptured x n).su.mapLoaded = s.su.mapLoaded := rfl
@[simp] theorem State.writeByte_rx (s : State) (c : Nat) (x : Capture) (b : Byte) (suspect : Bool) : (s.writeByte c x b suspect).rx = s.rx := rfl
@[simp] theorem State.writeByte_tx (s : State) (c : Nat) (x : Capture) (b : Byte) (suspect : Bool) : (s.writeByte c x b suspect).tx = s.tx := rfl
@[simp] theorem State.writeByte_slots (s : State) (c : Nat) (x : Capture) (b : Byte) (suspect : Bool) : (s.writeByte c x b suspect).slots = s.slots := rfl
@[simp] theorem State.writeByte_bank (s : State) (c : Nat) (x : Capture) (b : Byte) (suspect : Bool) : (s.writeByte c x b suspect).bank = s.bank := rfl
@[simp] theorem State.writeByte_seq (s : State) (c : Nat) (x : Capture) (b : Byte) (suspect : Bool) : (s.writeByte c x b suspect).seq = s.seq := rfl
@[simp] theorem State.writeByte_pool (s : State) (c : Nat) (x : Capture) (b : Byte) (suspect : Bool) : (s.writeByte c x b suspect).pool = s.pool := rfl
@[simp] theorem State.writeByte_orders (s : State) (c : Nat) (x : Capture) (b : Byte) (suspect : Bool) : (s.writeByte c x b suspect).orders = s.orders := rfl
@[simp] theorem State.writeByte_sender (s : State) (c : Nat) (x : Capture) (b : Byte) (suspect : Bool) : (s.writeByte c x b suspect).sender = s.sender := rfl
@[simp] theorem State.writeByte_pending (s : State) (c : Nat) (x : Capture) (b : Byte) (suspect : Bool) : (s.writeByte c x b suspect).pending = s.pending := rfl
@[simp] theorem State.writeByte_su_windows (s : State) (c : Nat) (x : Capture) (b : Byte) (suspect : Bool) : (s.writeByte c x b suspect).su.windows = s.su.windows := rfl
@[simp] theorem State.writeByte_su_gate (s : State) (c : Nat) (x : Capture) (b : Byte) (suspect : Bool) : (s.writeByte c x b suspect).su.gate = s.su.gate := rfl
@[simp] theorem State.writeByte_su_mapLoaded (s : State) (c : Nat) (x : Capture) (b : Byte) (suspect : Bool) : (s.writeByte c x b suspect).su.mapLoaded = s.su.mapLoaded := rfl
@[simp] theorem State.writeByte_su_directory (s : State) (c : Nat) (x : Capture) (b : Byte) (suspect : Bool) : (s.writeByte c x b suspect).su.directory = s.su.directory := rfl
@[simp] theorem State.finishReport_rx (s : State) : (s.finishReport).rx = s.rx := rfl
@[simp] theorem State.finishReport_tx (s : State) : (s.finishReport).tx = s.tx := rfl
@[simp] theorem State.finishReport_slots (s : State) : (s.finishReport).slots = s.slots := rfl
@[simp] theorem State.finishReport_bank (s : State) : (s.finishReport).bank = s.bank := rfl
@[simp] theorem State.finishReport_seq (s : State) : (s.finishReport).seq = s.seq := rfl
@[simp] theorem State.finishReport_su (s : State) : (s.finishReport).su = s.su := rfl
@[simp] theorem State.finishReport_pool (s : State) : (s.finishReport).pool = s.pool := rfl
@[simp] theorem State.finishReport_caps (s : State) : (s.finishReport).caps = s.caps := rfl
@[simp] theorem State.finishReport_orders (s : State) : (s.finishReport).orders = s.orders := rfl
@[simp] theorem State.finishReport_pending (s : State) : (s.finishReport).pending = s.pending := rfl
@[simp] theorem State.finishReport_sender_urgent (s : State) : (s.finishReport).sender.urgent = s.sender.urgent := rfl
@[simp] theorem State.finishReport_sender_ordinary (s : State) : (s.finishReport).sender.ordinary = s.sender.ordinary := rfl
@[simp] theorem State.finishReport_sender_drops (s : State) : (s.finishReport).sender.drops = s.sender.drops := rfl
@[simp] theorem State.finishReport_sender_hold (s : State) : (s.finishReport).sender.hold = s.sender.hold := rfl
@[simp] theorem State.powerOn_pending (s : State) : (s.powerOn).pending = s.pending := rfl
@[simp] theorem State.powerOn_su_store (s : State) : (s.powerOn).su.store = s.su.store := rfl
@[simp] theorem State.arriveFrame_tx (s : State) : (s.arriveFrame).tx = s.tx := rfl
@[simp] theorem State.arriveFrame_slots (s : State) : (s.arriveFrame).slots = s.slots := rfl
@[simp] theorem State.arriveFrame_su (s : State) : (s.arriveFrame).su = s.su := rfl
@[simp] theorem State.arriveFrame_orders (s : State) : (s.arriveFrame).orders = s.orders := rfl
@[simp] theorem State.arriveFrame_sender (s : State) : (s.arriveFrame).sender = s.sender := rfl
@[simp] theorem State.arriveFrame_pending (s : State) : (s.arriveFrame).pending = s.pending := rfl
@[simp] theorem State.arriveFrame_rx_width (s : State) : (s.arriveFrame).rx.width = s.rx.width := rfl
@[simp] theorem State.arriveFrame_rx_restartSet (s : State) : (s.arriveFrame).rx.restartSet = s.rx.restartSet := rfl
@[simp] theorem State.arriveFrame_rx_qualCount (s : State) : (s.arriveFrame).rx.qualCount = s.rx.qualCount := rfl
@[simp] theorem State.arriveFrame_rx_restarting (s : State) : (s.arriveFrame).rx.restarting = s.rx.restarting := rfl
@[simp] theorem State.arriveFrame_rx_armed (s : State) : (s.arriveFrame).rx.armed = s.rx.armed := rfl
@[simp] theorem State.arriveFrame_rx_clockTaken (s : State) : (s.arriveFrame).rx.clockTaken = s.rx.clockTaken := rfl
@[simp] theorem State.arriveFrame_seq_templates (s : State) : (s.arriveFrame).seq.templates = s.seq.templates := rfl
@[simp] theorem State.arriveFrame_pool_gatherWindow (s : State) : (s.arriveFrame).pool.gatherWindow = s.pool.gatherWindow := rfl
@[simp] theorem State.arriveFrame_pool_lingerTime (s : State) : (s.arriveFrame).pool.lingerTime = s.pool.lingerTime := rfl
@[simp] theorem State.arriveFrame_pool_waitLimit (s : State) : (s.arriveFrame).pool.waitLimit = s.pool.waitLimit := rfl
@[simp] theorem State.arriveFrame_pool_sentBegin (s : State) : (s.arriveFrame).pool.sentBegin = s.pool.sentBegin := rfl

/-! ### countWaits, the marks at the arrival, timers counted -/

@[simp] theorem State.countWaits_rx (s : State) : s.countWaits.rx = s.rx := rfl
@[simp] theorem State.countWaits_tx (s : State) : s.countWaits.tx = s.tx := rfl
@[simp] theorem State.countWaits_slots (s : State) : s.countWaits.slots = s.slots := rfl
@[simp] theorem State.countWaits_bank (s : State) : s.countWaits.bank = s.bank := rfl
@[simp] theorem State.countWaits_seq (s : State) : s.countWaits.seq = s.seq := rfl
@[simp] theorem State.countWaits_su (s : State) : s.countWaits.su = s.su := rfl
@[simp] theorem State.countWaits_caps (s : State) : s.countWaits.caps = s.caps := rfl
@[simp] theorem State.countWaits_orders (s : State) : s.countWaits.orders = s.orders := rfl
@[simp] theorem State.countWaits_sender (s : State) : s.countWaits.sender = s.sender := rfl
@[simp] theorem State.countWaits_pending (s : State) : s.countWaits.pending = s.pending := rfl
@[simp] theorem State.countWaits_pool_heads (s : State) : s.countWaits.pool.heads = s.pool.heads := rfl
@[simp] theorem State.countWaits_pool_gatherWindow (s : State) : s.countWaits.pool.gatherWindow = s.pool.gatherWindow := rfl
@[simp] theorem State.countWaits_pool_lingerTime (s : State) : s.countWaits.pool.lingerTime = s.pool.lingerTime := rfl
@[simp] theorem State.countWaits_pool_waitLimit (s : State) : s.countWaits.pool.waitLimit = s.pool.waitLimit := rfl
@[simp] theorem State.countWaits_pool_sentBegin (s : State) : s.countWaits.pool.sentBegin = s.pool.sentBegin := rfl
@[simp] theorem State.countWaits_queue (s : State) : s.countWaits.pool.queue = s.pool.queue.map Waiter.counted := rfl
@[simp] theorem HeadRun.mark0_mode (r : HeadRun) : r.mark0.mode = r.mode := rfl
@[simp] theorem HeadRun.mark0_phrase (r : HeadRun) : r.mark0.phrase = r.phrase := rfl
@[simp] theorem HeadRun.mark0_start (r : HeadRun) : r.mark0.start = r.start := rfl
@[simp] theorem HeadRun.mark0_length (r : HeadRun) : r.mark0.length = r.length := rfl
@[simp] theorem HeadRun.mark0_trim (r : HeadRun) : r.mark0.trim = r.trim := rfl
@[simp] theorem HeadRun.mark0_offset (r : HeadRun) : r.mark0.offset = r.offset := rfl
@[simp] theorem HeadRun.mark0_phase (r : HeadRun) : r.mark0.phase = r.phase := rfl
@[simp] theorem HeadRun.counted_mode (r : HeadRun) : r.counted.mode = r.mode := rfl
@[simp] theorem HeadRun.counted_phrase (r : HeadRun) : r.counted.phrase = r.phrase := rfl
@[simp] theorem HeadRun.counted_start (r : HeadRun) : r.counted.start = r.start := rfl
@[simp] theorem HeadRun.counted_length (r : HeadRun) : r.counted.length = r.length := rfl
@[simp] theorem HeadRun.counted_trim (r : HeadRun) : r.counted.trim = r.trim := rfl
@[simp] theorem HeadRun.counted_offset (r : HeadRun) : r.counted.offset = r.offset := rfl
@[simp] theorem HeadRun.counted_arrived (r : HeadRun) : r.counted.arrived = r.arrived := rfl
@[simp] theorem HeadRun.counted_hasRead (r : HeadRun) : r.counted.hasRead = r.hasRead := rfl
@[simp] theorem HeadRun.counted_counts (r : HeadRun) : r.counted.counts = false := rfl
@[simp] theorem Waiter.counted_slot (w : Waiter) : w.counted.slot = w.slot := by unfold Waiter.counted; split <;> rfl
@[simp] theorem Waiter.counted_phrase (w : Waiter) : w.counted.phrase = w.phrase := by unfold Waiter.counted; split <;> rfl
@[simp] theorem Waiter.counted_kind (w : Waiter) : w.counted.kind = w.kind := by unfold Waiter.counted; split <;> rfl
@[simp] theorem Waiter.counted_counts (w : Waiter) : w.counted.counts = false := by cases w with | mk _ _ _ _ c => cases c <;> rfl

/-- What counting a head's timer can do (R110): the head's record counted where its timer was yet to count, else nothing. -/
theorem State.countHead_cases (s : State) (h : Nat) :
    (∃ r, s.headRun h = some r ∧ r.counts = true ∧ s.countHead h = s.setHeadRun h (some r.counted)) ∨
      (s.countHead h = s ∧ ∀ r, s.headRun h = some r → r.counts = false) := by
  unfold State.countHead
  cases hr : s.headRun h with
  | none => exact .inr ⟨rfl, fun _ h => nomatch h⟩
  | some r => cases hc : r.counts with
    | true => exact .inl ⟨r, rfl, hc, by simp [hc]⟩
    | false => exact .inr ⟨by simp [hc], fun q h => by cases h; exact hc⟩

end Sys2Proof.Machine
end

