-- ==== Sys2Proof/Laws/Ops.lean ====
section
/-! SUPPORT. What the shared operations of Machine/Ops.lean can do, and what the operations of the Sequencer and the Head
Pool leave alone: each lemma says once everything later proofs need, so that they cite it instead of unfolding. -/

namespace Sys2Proof.Machine

/-- A property of the state that every stage of a fold keeps is kept by the fold. -/
theorem foldl_keeps {α β σ : Type} (view : σ → β) (f : σ → α → σ) (hf : ∀ s a, view (f s a) = view s) :
    ∀ (l : List α) (s : σ), view (l.foldl f s) = view s
  | [], _ => rfl
  | a :: l, s => (foldl_keeps view f hf l (f s a)).trans (hf s a)

/-- An invariant that every stage of a fold keeps is kept by the fold. -/
theorem foldl_inv {α σ : Type} (P : σ → Prop) (f : σ → α → σ) (hf : ∀ s a, P s → P (f s a)) :
    ∀ (l : List α) (s : σ), P s → P (l.foldl f s)
  | [], _, h => h
  | a :: l, s, h => foldl_inv P f hf l (f s a) (hf s a h)

/-- The state without what programmes, heads and waiters change: contexts, heads, wait queue, and the queues of the
Report Sender. -/
def State.backdrop (s : State) : State :=
  { s with
    seq := { s.seq with contexts := [] }
    pool := { s.pool with heads := [], queue := [] }
    sender := { s.sender with urgent := [], ordinary := [], drops := 0 } }

/-! ### Updates of the backdrop -/

@[simp] theorem State.backdrop_setContexts (s : State) (l) : (s.setContexts l).backdrop = s.backdrop := rfl
@[simp] theorem State.backdrop_setCtx (s : State) (k c) : (s.setCtx k c).backdrop = s.backdrop := rfl
@[simp] theorem State.backdrop_modifyCtx (s : State) (k f) : (s.modifyCtx k f).backdrop = s.backdrop := rfl
@[simp] theorem State.backdrop_setHeads (s : State) (l) : (s.setHeads l).backdrop = s.backdrop := rfl
@[simp] theorem State.backdrop_setHeadRun (s : State) (h r) : (s.setHeadRun h r).backdrop = s.backdrop := rfl
@[simp] theorem State.backdrop_setUrgent (s : State) (l) : (s.setUrgent l).backdrop = s.backdrop := rfl
@[simp] theorem State.backdrop_queueLane (s : State) (l p news) : (s.queueLane l p news).backdrop = s.backdrop := rfl

@[simp] theorem State.backdrop_modifyCtxs (s : State) (l f) : (s.modifyCtxs l f).backdrop = s.backdrop :=
  foldl_keeps State.backdrop (fun t k => t.modifyCtx k f) (fun _ _ => rfl) l s

@[simp] theorem State.backdrop_queueOrdinary (s : State) (n) : (s.queueOrdinary n).backdrop = s.backdrop := by
  unfold State.queueOrdinary; split <;> rfl

@[simp] theorem State.backdrop_queueAll (s : State) (ns) : (s.queueAll ns).backdrop = s.backdrop :=
  foldl_keeps State.backdrop _ (fun s n => s.backdrop_queueOrdinary n) ns s

@[simp] theorem State.backdrop_refuse (s : State) (c code ref d) : (s.refuse c code ref d).backdrop = s.backdrop :=
  s.backdrop_queueOrdinary _

@[simp] theorem State.backdrop_noteShortage (s : State) (b) : (s.noteShortage b).backdrop = s.backdrop := by
  unfold State.noteShortage; simp only []; (repeat' split) <;> rfl

@[simp] theorem State.backdrop_setQueue (s : State) (q) : (s.setQueue q).backdrop = s.backdrop := by
  unfold State.setQueue; split <;> simp <;> rfl

/-! ### The Head Pool -/

@[simp] theorem State.backdrop_startHead (s : State) (h k p) : (s.startHead h k p).backdrop = s.backdrop := by
  unfold State.startHead; split <;> simp

@[simp] theorem State.backdrop_revive (s : State) (h) : (s.revive h).backdrop = s.backdrop := by
  unfold State.revive; (repeat' split) <;> simp

@[simp] theorem State.backdrop_subscribe (s : State) (own k h) : (s.subscribe own k h).backdrop = s.backdrop := by
  unfold State.subscribe; split <;> simp

@[simp] theorem State.backdrop_enqueue (s : State) (k p kind) : (s.enqueue k p kind).backdrop = s.backdrop := by
  simp [State.enqueue]

theorem State.backdrop_request {s t : State} {own k p kind} (h : s.request own k p kind = some t) :
    t.backdrop = s.backdrop := by
  unfold State.request at h
  split at h
  · simp only [] at h
    split at h
    · cases h; simp
    · split at h <;> cases h <;> simp
  · cases h

@[simp] theorem State.backdrop_grantTo (s : State) (h k) : (s.grantTo h k).backdrop = s.backdrop := by
  unfold State.grantTo; split <;> simp

@[simp] theorem State.backdrop_offer (s : State) (h) : (s.offer h).backdrop = s.backdrop := by
  unfold State.offer
  simp only []
  split
  · simp
  · simp only [State.backdrop_setQueue]
    rw [foldl_keeps State.backdrop _ (fun s k => s.backdrop_grantTo h k)]
    simp

@[simp] theorem State.backdrop_restHead (s : State) (h) : (s.restHead h).backdrop = s.backdrop := by
  unfold State.restHead; (repeat' split) <;> simp

@[simp] theorem State.backdrop_settleHeads (s : State) (l) : (s.settleHeads l).backdrop = s.backdrop := by
  unfold State.settleHeads
  simp only []
  rw [foldl_keeps State.backdrop _ (fun t h => by split <;> simp), foldl_keeps State.backdrop _ (fun t h => by simp)]

@[simp] theorem State.backdrop_leavePool (s : State) (l) : (s.leavePool l).backdrop = s.backdrop := by
  unfold State.leavePool
  simp only [State.backdrop_settleHeads, State.backdrop_setQueue]
  exact foldl_keeps State.backdrop _ (fun t k => by simp) l s

@[simp] theorem State.backdrop_expireGather (s : State) (h) : (s.expireGather h).backdrop = s.backdrop := by
  unfold State.expireGather; split <;> simp

@[simp] theorem State.backdrop_expireLinger (s : State) (h) : (s.expireLinger h).backdrop = s.backdrop := by
  simp [State.expireLinger]

@[simp] theorem State.backdrop_completeOn (s : State) (h l) : (s.completeOn h l).backdrop = s.backdrop := by
  simp [State.completeOn]

@[simp] theorem State.backdrop_expireWait (s : State) (k) : (s.expireWait k).backdrop = s.backdrop := by
  simp [State.expireWait]

@[simp] theorem State.backdrop_stopPool (s : State) : s.stopPool.backdrop = s.backdrop := by
  simp [State.stopPool]

@[simp] theorem State.backdrop_readHead (s : State) (h r) : (s.readHead h r).backdrop = s.backdrop := by
  unfold State.readHead; simp only []; split <;> simp

@[simp] theorem State.backdrop_countHead (s : State) (h) : (s.countHead h).backdrop = s.backdrop := by
  unfold State.countHead; (repeat' split) <;> simp

@[simp] theorem State.backdrop_countWaits (s : State) : s.countWaits.backdrop = s.backdrop := rfl

/-! ### The Sequencer -/

@[simp] theorem State.backdrop_endProgrammes (s : State) (l c) : (s.endProgrammes l c).backdrop = s.backdrop := by
  simp [State.endProgrammes]

/-- The state a step's beginning leaves, whichever way it goes on. -/
def Begun.keeps (b : Begun) (s : State) : Prop :=
  match b with
  | .stop t => t.backdrop = s.backdrop
  | .pass t => t.backdrop = s.backdrop
  | .over => True

theorem State.answer_keeps (s : State) (own k p kind) : (s.answer own k p kind).keeps s := by
  unfold State.answer
  split
  · next h => exact State.backdrop_request h
  · exact s.backdrop_modifyCtx k _

theorem State.beginStep_keeps (s : State) (own k c t) : (s.beginStep own k c t).keeps s := by
  unfold State.beginStep
  split
  · trivial
  · exact s.backdrop_setCtx k _
  · exact s.backdrop_setCtx k _
  · exact s.answer_keeps own k _ _
  · exact (s.setCtx k _).answer_keeps own k _ _
  · split
    · exact s.answer_keeps own k _ _
    · split <;> exact s.backdrop_setCtx k _
  · simp only []
    split <;> exact s.backdrop_setCtx k _

@[simp] theorem State.backdrop_goOn (own : Bool) (k : Nat) : ∀ (n : Nat) (s : State),
    (State.goOn own k n s).backdrop = s.backdrop
  | 0, _ => rfl
  | n + 1, s => by
    rw [State.goOn]
    split
    · rfl
    · next c _ =>
      split
      · rfl
      · next t _ =>
        have hk := s.beginStep_keeps own k c t
        split
        · next h => rw [h] at hk; exact hk
        · next h => rw [h] at hk; exact (State.backdrop_goOn own k n _).trans hk
        · simp

@[simp] theorem State.backdrop_goOnSlot (s : State) (own k) : (s.goOnSlot own k).backdrop = s.backdrop := by
  unfold State.goOnSlot; (repeat' split) <;> simp

@[simp] theorem State.backdrop_startProgramme (s : State) (k n m t ps tag) :
    (s.startProgramme k n m t ps tag).backdrop = s.backdrop := by
  unfold State.startProgramme; simp only [State.backdrop_goOnSlot, State.backdrop_setCtx]; split <;> simp

end Sys2Proof.Machine
end

