-- ==== Sys2Proof/Laws/Ground.lean ====
section
/-! SUPPORT. What only the frame event changes: the store, the outbound frames and alternation. No operation changes the
queue of commands. -/

namespace Sys2Proof.Machine

/-- The store, the Lane Transmitter and the queue of commands. -/
def State.ground (s : State) : List Host.Cell × LaneTransmitter × List Instr := (s.su.store, s.tx, s.pending)

theorem State.ground_of_backdrop {s t : State} (h : t.backdrop = s.backdrop) : t.ground = s.ground :=
  (congrArg State.ground h : t.backdrop.ground = s.backdrop.ground)

theorem State.pending_of_ground {s t : State} (h : t.ground = s.ground) : t.pending = s.pending :=
  congrArg (fun g => g.2.2) h

theorem State.store_of_ground {s t : State} (h : t.ground = s.ground) : t.su.store = s.su.store :=
  congrArg (fun g => g.1) h

theorem State.tx_of_ground {s t : State} (h : t.ground = s.ground) : t.tx = s.tx :=
  congrArg (fun g => g.2.1) h

@[simp] theorem State.ground_queueOrdinary (s : State) (n) : (s.queueOrdinary n).ground = s.ground :=
  State.ground_of_backdrop (s.backdrop_queueOrdinary n)
@[simp] theorem State.ground_refuse (s : State) (c code ref d) : (s.refuse c code ref d).ground = s.ground :=
  State.ground_of_backdrop (s.backdrop_refuse c code ref d)
@[simp] theorem State.ground_endProgrammes (s : State) (l c) : (s.endProgrammes l c).ground = s.ground :=
  State.ground_of_backdrop (s.backdrop_endProgrammes l c)
@[simp] theorem State.ground_goOnSlot (s : State) (own k) : (s.goOnSlot own k).ground = s.ground :=
  State.ground_of_backdrop (s.backdrop_goOnSlot own k)
@[simp] theorem State.ground_startProgramme (s : State) (k n m t ps tag) :
    (s.startProgramme k n m t ps tag).ground = s.ground :=
  State.ground_of_backdrop (s.backdrop_startProgramme k n m t ps tag)
@[simp] theorem State.ground_expireGather (s : State) (h) : (s.expireGather h).ground = s.ground :=
  State.ground_of_backdrop (s.backdrop_expireGather h)
@[simp] theorem State.ground_expireLinger (s : State) (h) : (s.expireLinger h).ground = s.ground :=
  State.ground_of_backdrop (s.backdrop_expireLinger h)
@[simp] theorem State.ground_completeOn (s : State) (h l) : (s.completeOn h l).ground = s.ground :=
  State.ground_of_backdrop (s.backdrop_completeOn h l)
@[simp] theorem State.ground_expireWait (s : State) (k) : (s.expireWait k).ground = s.ground :=
  State.ground_of_backdrop (s.backdrop_expireWait k)
@[simp] theorem State.ground_stopPool (s : State) : s.stopPool.ground = s.ground :=
  State.ground_of_backdrop s.backdrop_stopPool
@[simp] theorem State.ground_countHead (s : State) (h) : (s.countHead h).ground = s.ground :=
  State.ground_of_backdrop (s.backdrop_countHead h)
@[simp] theorem State.ground_countWaits (s : State) : s.countWaits.ground = s.ground := rfl
@[simp] theorem State.ground_readHead (s : State) (h r) : (s.readHead h r).ground = s.ground :=
  State.ground_of_backdrop (s.backdrop_readHead h r)
@[simp] theorem State.ground_modifyCtx (s : State) (k f) : (s.modifyCtx k f).ground = s.ground := rfl
@[simp] theorem State.ground_setCtx (s : State) (k c) : (s.setCtx k c).ground = s.ground := rfl
@[simp] theorem State.ground_setCapture (s : State) (c x) : (s.setCapture c x).ground = s.ground := rfl
@[simp] theorem State.ground_setLanes (s : State) (l) : (s.setLanes l).ground = s.ground := rfl
@[simp] theorem State.ground_modifyLane (s : State) (p f) : (s.modifyLane p f).ground = s.ground := rfl
@[simp] theorem State.ground_queueLane (s : State) (l p news) : (s.queueLane l p news).ground = s.ground := rfl
@[simp] theorem State.ground_setParser (s : State) (p) : (s.setParser p).ground = s.ground := rfl
@[simp] theorem State.ground_writeCaptured (s : State) (x n) : (s.writeCaptured x n).ground = s.ground := rfl
@[simp] theorem State.ground_loadMap (s : State) (w) : (s.loadMap w).ground = s.ground := rfl
@[simp] theorem State.ground_finishReport (s : State) : s.finishReport.ground = s.ground := rfl
@[simp] theorem State.ground_restart (s : State) : s.restart.ground = s.ground := rfl
@[simp] theorem State.ground_arriveFrame (s : State) : s.arriveFrame.ground = s.ground := rfl

/-! ### Capture Channels -/

@[simp] theorem State.ground_endRecording (s : State) (c x cause n) :
    (s.endRecording c x cause n).ground = s.ground := by
  unfold State.endRecording; split <;> simp

@[simp] theorem State.ground_endNoVoice (s : State) (c x) : (s.endNoVoice c x).ground = s.ground := by
  simp [State.endNoVoice]

@[simp] theorem State.ground_abortCapture (s : State) (cause c) : (s.abortCapture cause c).ground = s.ground := by
  unfold State.abortCapture; split <;> simp

@[simp] theorem State.ground_abortOnLane (s : State) (o l) : (s.abortOnLane o l).ground = s.ground :=
  foldl_keeps State.ground (fun s c => s.abortCapture .laneLost c) (fun s c => s.ground_abortCapture _ c) _ s

@[simp] theorem State.ground_abortAll (s : State) : s.abortAll.ground = s.ground :=
  foldl_keeps State.ground (fun s c => s.abortCapture .mapChanged c) (fun s c => s.ground_abortCapture _ c) _ s

@[simp] theorem State.ground_expireVoice (s : State) (c) : (s.expireVoice c).ground = s.ground := by
  unfold State.expireVoice; split <;> simp

@[simp] theorem State.ground_endFull (s : State) (c) : (s.endFull c).ground = s.ground := by
  unfold State.endFull; split <;> simp

@[simp] theorem State.ground_endSilence (s : State) (c) : (s.endSilence c).ground = s.ground := by
  unfold State.endSilence; split <;> simp

@[simp] theorem State.ground_stopCapture (s : State) (c) : (s.stopCapture c).ground = s.ground := by
  unfold State.stopCapture; split <;> simp

/-! ### Lanes -/

@[simp] theorem State.ground_controlChanged (s b : State) : (s.controlChanged b).ground = s.ground := by
  unfold State.controlChanged; split <;> rfl

@[simp] theorem State.ground_loseProgrammes (s : State) (l) : (s.loseProgrammes l).ground = s.ground := by
  simp [State.loseProgrammes]

@[simp] theorem State.ground_passOnLoss (s : State) (o l p news) : (s.passOnLoss o l p news).ground = s.ground := by
  unfold State.passOnLoss; simp only []; (repeat' split) <;> simp

@[simp] theorem State.ground_endLane (s : State) (o p) : (s.endLane o p).ground = s.ground := by
  unfold State.endLane; (repeat' split) <;> simp

@[simp] theorem State.ground_completeCheck (s : State) (p) : (s.completeCheck p).ground = s.ground := by
  unfold State.completeCheck
  split
  · rfl
  · split
    · rfl
    · simp only []
      split
      · split
        · next l _ _ _ =>
          change (((s.modifyLane p Lane.toAligned).controlChanged s).queueLane l p .aligned).ground = s.ground
          simp
        · simp
      · simp

@[simp] theorem State.ground_changeWidth (s : State) (o w) : (s.changeWidth o w).ground = s.ground := by
  unfold State.changeWidth
  split
  · simp only []
    rw [foldl_keeps State.ground _ (fun t l => t.ground_passOnLoss o l _ .spare), State.ground_controlChanged]
    rfl
  · split <;> rfl

@[simp] theorem State.ground_arriveOn (s : State) (p f late) : (s.arriveOn p f late).ground = s.ground := by
  unfold State.arriveOn State.clockArrival; simp only []; (repeat' split) <;> rfl

/-! ### Reports and the parser -/

@[simp] theorem State.ground_beginReport (s : State) : s.beginReport.ground = s.ground := by
  unfold State.beginReport; (repeat' split) <;> rfl

@[simp] theorem State.ground_offerByte (s : State) (m) : (s.offerByte m).1.ground = s.ground := by
  have hb : (if (s.mayBegin && m) = true then s.beginReport else s).ground = s.ground := by split <;> simp
  unfold State.offerByte
  split
  · rfl
  · simp only []
    split
    · exact hb
    · exact hb

@[simp] theorem State.ground_garble (s : State) (n) : (s.garble n).ground = s.ground := by
  simp [State.garble, State.refuseGarbled]

@[simp] theorem State.ground_parseByte (s : State) (b u) : (s.parseByte b u).ground = s.ground := by
  unfold State.parseByte; (repeat' split) <;> first | rfl | simp

/-! ### Orders -/

@[simp] theorem takeLanePlan_ground (ref args o) (s : State) : (takeLanePlan ref args o s).ground = s.ground := by
  unfold takeLanePlan; simp only []; (repeat' split) <;> (simp; try rfl)

@[simp] theorem takeSetSlots_ground (ref args) (s : State) : (takeSetSlots ref args s).ground = s.ground := by
  unfold takeSetSlots; (repeat' split) <;> first | rfl | simp

@[simp] theorem takeTone_ground (ref args) (s : State) : (takeTone ref args s).ground = s.ground := by
  unfold takeTone; (repeat' split) <;> first | rfl | simp

@[simp] theorem takeCadence_ground (ref args) (s : State) : (takeCadence ref args s).ground = s.ground := by
  unfold takeCadence; (repeat' split) <;> first | rfl | simp

@[simp] theorem takeTemplate_ground (ref args) (s : State) : (takeTemplate ref args s).ground = s.ground := by
  unfold takeTemplate; (repeat' split) <;> first | rfl | simp

@[simp] theorem takePlay_ground (ref args) (s : State) : (takePlay ref args s).ground = s.ground := by
  unfold takePlay; (repeat' split) <;> first | rfl | simp

@[simp] theorem takeStop_ground (ref args) (s : State) : (takeStop ref args s).ground = s.ground := by
  unfold takeStop; (repeat' split) <;> first | rfl | simp

@[simp] theorem takeWindowMap_ground (ref args) (s : State) : (takeWindowMap ref args s).ground = s.ground := by
  unfold takeWindowMap; (repeat' split) <;> simp

@[simp] theorem takePhrase_ground (ref args) (s : State) : (takePhrase ref args s).ground = s.ground := by
  unfold takePhrase; simp only []; (repeat' split) <;> first | rfl | simp

@[simp] theorem takeDirectoryCheck_ground (ref args) (s : State) :
    (takeDirectoryCheck ref args s).ground = s.ground := by
  unfold takeDirectoryCheck; simp only []; (repeat' split) <;> (simp; try rfl)

@[simp] theorem takeHeadPlan_ground (ref args) (s : State) : (takeHeadPlan ref args s).ground = s.ground := by
  unfold takeHeadPlan; (repeat' split) <;> first | rfl | simp

@[simp] theorem takeCaptureStart_ground (ref args) (s : State) : (takeCaptureStart ref args s).ground = s.ground := by
  unfold takeCaptureStart; (repeat' split) <;> simp

@[simp] theorem takeCaptureStop_ground (ref args) (s : State) : (takeCaptureStop ref args s).ground = s.ground := by
  unfold takeCaptureStop; (repeat' split) <;> simp

@[simp] theorem takeQuery_ground (n ref args) (s : State) : (takeQuery n ref args s).ground = s.ground := by
  unfold takeQuery; (repeat' split) <;> simp

@[simp] theorem takeBadQuery_ground (ref args) (s : State) : (takeBadQuery ref args s).ground = s.ground := by
  unfold takeBadQuery; (repeat' split) <;> simp

@[simp] theorem takeUnknown_ground (code ref) (s : State) : (takeUnknown code ref s).ground = s.ground := by
  simp [takeUnknown]

@[simp] theorem takeBody_ground (o body) (s : State) : (takeBody o body s).ground = s.ground := by
  unfold takeBody; (repeat' split) <;> simp

/-! ### What stands due -/

theorem State.ground_onDue (s : State) (due : Bool) (f : State → State) (hf : (f s).ground = s.ground) :
    (s.onDue due f).ground = s.ground := by
  unfold State.onDue; split
  · exact hf
  · rfl

@[simp] theorem State.ground_dueCheck (s : State) (p) : (s.dueCheck p).ground = s.ground :=
  s.ground_onDue _ _ (s.ground_completeCheck p)
@[simp] theorem State.ground_dueLoss (o) (s : State) (p) : (s.dueLoss o p).ground = s.ground :=
  s.ground_onDue _ _ (s.ground_endLane o p)
@[simp] theorem State.ground_dueMismatch (o) (s : State) (p) : (s.dueMismatch o p).ground = s.ground :=
  s.ground_onDue _ _ (s.ground_endLane o p)
@[simp] theorem State.ground_dueTimedEnd (s : State) (k) : (s.dueTimedEnd k).ground = s.ground :=
  s.ground_onDue _ _ rfl
@[simp] theorem State.ground_dueGather (s : State) (h) : (s.dueGather h).ground = s.ground :=
  s.ground_onDue _ _ (s.ground_expireGather h)
@[simp] theorem State.ground_dueLinger (s : State) (h) : (s.dueLinger h).ground = s.ground :=
  s.ground_onDue _ _ (s.ground_expireLinger h)
@[simp] theorem State.ground_dueWait (s : State) (k) : (s.dueWait k).ground = s.ground :=
  s.ground_onDue _ _ (s.ground_expireWait k)
@[simp] theorem State.ground_duePhrase (s : State) (h) : (s.duePhrase h).ground = s.ground :=
  s.ground_onDue _ _ (s.ground_completeOn h _)
@[simp] theorem State.ground_dueLoop (s : State) (h) : (s.dueLoop h).ground = s.ground :=
  s.ground_onDue _ _ (s.ground_completeOn h _)
@[simp] theorem State.ground_dueVoice (s : State) (c) : (s.dueVoice c).ground = s.ground :=
  s.ground_onDue _ _ (s.ground_expireVoice c)
@[simp] theorem State.ground_dueFull (s : State) (c) : (s.dueFull c).ground = s.ground :=
  s.ground_onDue _ _ (s.ground_endFull c)
@[simp] theorem State.ground_dueSilence (s : State) (c) : (s.dueSilence c).ground = s.ground :=
  s.ground_onDue _ _ (s.ground_endSilence c)
@[simp] theorem State.ground_dueRestart (s : State) : s.dueRestart.ground = s.ground := s.ground_onDue _ _ rfl
@[simp] theorem State.ground_dueReport (s : State) : s.dueReport.ground = s.ground := s.ground_onDue _ _ rfl

@[simp] theorem State.ground_dueOrder (o) (s : State) : (s.dueOrder o).ground = s.ground := by
  unfold State.dueOrder
  split
  · rw [takeBody_ground]; rfl
  · rfl

@[simp] theorem State.ground_settleLanes (s : State) : s.settleLanes.ground = s.ground :=
  foldl_keeps State.ground (fun s p => ((s.dueCheck p).dueLoss .plain p).dueMismatch .plain p)
    (fun s p => by simp) _ s

@[simp] theorem State.ground_settleTimers (s : State) : s.settleTimers.ground = s.ground := by
  unfold State.settleTimers
  rw [foldl_keeps State.ground _ (fun s h => s.ground_dueLinger h),
    foldl_keeps State.ground _ (fun s h => s.ground_dueGather h)]

@[simp] theorem State.ground_settleEndings (s : State) : s.settleEndings.ground = s.ground := by
  unfold State.settleEndings
  simp only [State.ground_settleTimers]
  rw [foldl_keeps State.ground _ (fun s c => by simp), foldl_keeps State.ground _ (fun s h => s.ground_dueLoop h),
    foldl_keeps State.ground _ (fun s h => s.ground_duePhrase h),
    foldl_keeps State.ground _ (fun s k => s.ground_dueTimedEnd k), State.ground_settleLanes]

@[simp] theorem State.ground_settleWaits (s : State) : s.settleWaits.ground = s.ground :=
  foldl_keeps State.ground State.dueWait (fun s k => s.ground_dueWait k) _ s

@[simp] theorem State.ground_settle (s : State) : s.settle.ground = s.ground := by simp [State.settle]

@[simp] theorem State.ground_beforeOrder (s : State) (body) : (s.beforeOrder body).ground = s.ground := by
  unfold State.beforeOrder
  have ht := s.ground_settleEndings
  generalize s.settleEndings = t at ht
  simp only []
  split
  · exact ht
  · rw [State.ground_dueOrder, ht]

end Sys2Proof.Machine
end

