-- ==== Sys2Proof/Laws/Quiet.lean ====
section
/-! SUPPORT. Where nothing stands due, carrying out what stands due changes nothing. -/

namespace Sys2Proof.Machine

/-- A fold whose every stage leaves the state alone leaves it alone. -/
theorem foldl_fixed {α σ : Type} {f : σ → α → σ} {s : σ} : ∀ {l : List α}, (∀ a ∈ l, f s a = s) → l.foldl f s = s
  | [], _ => rfl
  | a :: l, h => by
    rw [List.foldl_cons, h a List.mem_cons_self]
    exact foldl_fixed fun b hb => h b (List.mem_cons_of_mem a hb)

theorem State.onDue_false (s : State) (f : State → State) : s.onDue false f = s := rfl

/-- What is not due is not carried out. -/
theorem State.onDue_of_not {s : State} {due : Bool} {f : State → State} (h : due = false) : s.onDue due f = s := by
  subst h; rfl

theorem State.settleLanes_of_quiet {s : State} (h : s.lanesQuiet = true) : s.settleLanes = s := by
  refine foldl_fixed fun p hp => ?_
  have hq := List.all_eq_true.mp h p hp
  simp only [Bool.and_eq_true, Bool.not_eq_true'] at hq
  simp only [State.dueCheck, State.dueLoss, State.dueMismatch, hq.1, hq.2.1, hq.2.2, State.onDue_false]

theorem State.settleTimers_of_quiet {s : State} (h : s.timersQuiet = true) : s.settleTimers = s := by
  simp only [State.timersQuiet, List.all_eq_true, Bool.and_eq_true, Bool.not_eq_true'] at h
  simp only [State.settleTimers]
  rw [foldl_fixed (f := State.dueGather) fun k hk => State.onDue_of_not (h k hk).1,
    foldl_fixed (f := State.dueLinger) fun k hk => State.onDue_of_not (h k hk).2]

theorem State.settleEndings_of_quiet {s : State} (h : s.endingsQuiet = true) : s.settleEndings = s := by
  simp only [State.endingsQuiet, Bool.and_eq_true, List.all_eq_true, Bool.not_eq_true'] at h
  obtain ⟨hl, ht, hp, hc, hq⟩ := h
  simp only [State.settleEndings, State.settleLanes_of_quiet hl]
  rw [foldl_fixed (f := State.dueTimedEnd) fun k hk => State.onDue_of_not (ht k hk),
    foldl_fixed (f := State.duePhrase) fun k hk => State.onDue_of_not (hp k hk).1,
    foldl_fixed (f := State.dueLoop) fun k hk => State.onDue_of_not (by simp [(hp k hk).2])]
  refine (congrArg State.settleTimers (foldl_fixed fun c hcm => ?_)).trans (State.settleTimers_of_quiet hq)
  simp only [State.dueVoice, State.dueSilence, State.dueFull, (hc c hcm).1, (hc c hcm).2.1, (hc c hcm).2.2,
    State.onDue_false]

theorem State.waitDue_of_quiet {s : State} (h : s.waitsQuiet = true) (k : Nat) : s.waitDue k = false := by
  simp only [State.waitsQuiet, List.all_eq_true] at h
  simp only [State.waitDue, List.any_eq_false]
  intro w hw
  have := h w hw
  simp_all

theorem State.settleWaits_of_quiet {s : State} (h : s.waitsQuiet = true) : s.settleWaits = s :=
  foldl_fixed fun k _ => State.onDue_of_not (State.waitDue_of_quiet h k)

/-- What the taking of a message can do: where a frame event is under way, the message is taken behind it; else as the state
stands. -/
theorem State.takeMessage_cases {s t : State} {body : List Byte} {take : State → State}
    (h : s.takeMessage body take = .next t) :
    ∃ u, (s.frameBegun = true ∧ s.dueFrame [] = .next u ∨ s.frameBegun = false ∧ u = s) ∧
      t = take (u.beforeOrder body) := by
  unfold State.takeMessage State.afterBegun at h
  split at h
  · next hb =>
    split at h
    · next u hu => cases h; exact ⟨u, .inl ⟨hb, hu⟩, rfl⟩
    · cases h
    · cases h
  · next hb => cases h; exact ⟨s, .inr ⟨by simpa using hb, rfl⟩, rfl⟩

theorem State.worked_of_ready {s : State} (h : s.ready = true) : s.worked = true := by
  simp only [State.ready, Bool.and_eq_true] at h
  exact h.1

theorem State.frameBegun_of_ready {s : State} (h : s.ready = true) : s.frameBegun = false := by
  simp only [State.ready, Bool.and_eq_true, Bool.not_eq_true'] at h
  exact h.2

theorem State.worked_of_quiet {s : State} (h : s.quiet = true) : s.worked = true := by
  simp only [State.quiet, Bool.and_eq_true] at h
  exact h.1

theorem State.dueOrder_of_worked {s : State} (h : s.worked = true) (o : LossOrder) : s.dueOrder o = s := by
  simp only [State.worked, Bool.and_eq_true, Option.isNone_iff_eq_none] at h
  simp [State.dueOrder, h.2]

theorem State.beforeOrder_of_worked {s : State} (h : s.worked = true) (body : List Byte) : s.beforeOrder body = s := by
  simp only [State.worked, Bool.and_eq_true, Option.isNone_iff_eq_none] at h
  simp [State.beforeOrder, State.settleEndings_of_quiet h.1, State.dueOrder, h.2]

/-- In a ready state an order is taken as the state stands. -/
theorem State.takeMessage_of_ready {s : State} (h : s.ready = true) (body : List Byte) (take : State → State) :
    s.takeMessage body take = .next (take s) := by
  simp [State.takeMessage, State.afterBegun, State.frameBegun_of_ready h,
    State.beforeOrder_of_worked (State.worked_of_ready h)]

/-- Nothing due: settling changes nothing. -/
theorem State.settle_of_quiet {s : State} (h : s.quiet = true) : s.settle = s := by
  have hr := State.worked_of_quiet h
  simp only [State.quiet, Bool.and_eq_true, Bool.not_eq_true'] at h
  obtain ⟨_, hw, hd, hp⟩ := h
  have he : s.endingsQuiet = true := by
    simp only [State.worked, Bool.and_eq_true] at hr
    exact hr.1
  simp only [State.settle, State.settleEndings_of_quiet he, State.dueOrder_of_worked hr,
    State.settleWaits_of_quiet hw, State.dueRestart, State.dueReport, hd, hp,
    State.onDue_false]

end Sys2Proof.Machine
end

