-- ==== Sys2Proof/Laws/Store.lean ====
section
/-! SUPPORT. The laws of the store: reading after writing, and the canonical form every write keeps. -/

namespace Sys2Proof.Machine

/-- A lower bound may be lowered. -/
theorem storeWfFrom_mono {low high : Nat} (h : low ≤ high) :
    ∀ {cells}, storeWfFrom high cells = true → storeWfFrom low cells = true
  | [], _ => rfl
  | (a, v) :: rest, hw => by
    simp only [storeWfFrom, Bool.and_eq_true, decide_eq_true_eq] at hw ⊢
    exact ⟨⟨⟨by omega, hw.1.1.2⟩, hw.1.2⟩, hw.2⟩

/-- Below its lower bound a canonical store lists nothing. -/
theorem storeRead_below {a : Nat} : ∀ {low cells}, storeWfFrom low cells = true → a < low →
    storeRead cells a = Config.unwrittenByte
  | _, [], _, _ => rfl
  | low, (b, v) :: rest, hw, ha => by
    simp only [storeWfFrom, Bool.and_eq_true, decide_eq_true_eq] at hw
    have hab : a ≠ b := by omega
    simp only [storeRead, if_neg hab]
    exact storeRead_below hw.2 (by omega)

/-- A read of another address gives what it gave before. -/
theorem storeRead_storeWrite_other {a c : Nat} {v : Byte} (h : c ≠ a) :
    ∀ cells, storeRead (storeWrite cells a v) c = storeRead cells c
  | [] => by
    simp only [storeWrite]
    split <;> simp [storeRead, h]
  | (b, u) :: rest => by
    simp only [storeWrite]
    split
    · split <;> simp [storeRead, h]
    · split
      · next hab =>
        subst hab
        split <;> simp [storeRead, h]
      · simp only [storeRead, storeRead_storeWrite_other h rest]

/-- A read gives the byte last written (R91). -/
theorem storeRead_storeWrite_same {a : Nat} {v : Byte} :
    ∀ {low cells}, storeWfFrom low cells = true → storeRead (storeWrite cells a v) a = v
  | _, [], _ => by
    simp only [storeWrite]
    split
    · next h => simp [storeRead, h]
    · simp [storeRead]
  | low, (b, u) :: rest, hw => by
    have hr := hw
    simp only [storeWfFrom, Bool.and_eq_true, decide_eq_true_eq] at hr
    simp only [storeWrite]
    split
    · next hab =>
      split
      · next hv =>
        rw [storeRead_below (low := b) (by
          simp only [storeWfFrom, Bool.and_eq_true, decide_eq_true_eq]
          exact ⟨⟨⟨Nat.le_refl b, hr.1.1.2⟩, hr.1.2⟩, hr.2⟩) hab, hv]
      · simp [storeRead]
    · split
      · next hab =>
        subst hab
        split
        · next hv => rw [storeRead_below hr.2 (Nat.lt_succ_self a), hv]
        · simp [storeRead]
      · next hab =>
        simp only [storeRead, if_neg hab]
        exact storeRead_storeWrite_same hr.2

/-- A write above the lower bound and inside the store keeps the canonical form. -/
theorem storeWfFrom_storeWrite {a : Nat} {v : Byte} (ha : a < 16777216) :
    ∀ {low cells}, storeWfFrom low cells = true → low ≤ a → storeWfFrom low (storeWrite cells a v) = true
  | low, [], _, hl => by
    simp only [storeWrite]
    split
    · rfl
    · next hv => simp [storeWfFrom, hl, ha, hv]
  | low, (b, u) :: rest, hw, hl => by
    have hr := hw
    simp only [storeWfFrom, Bool.and_eq_true, decide_eq_true_eq] at hr
    simp only [storeWrite]
    split
    · next hab =>
      split
      · exact hw
      · next hv =>
        simp only [storeWfFrom, Bool.and_eq_true, decide_eq_true_eq]
        exact ⟨⟨⟨hl, ha⟩, by simpa using hv⟩, ⟨⟨by omega, hr.1.1.2⟩, hr.1.2⟩, hr.2⟩
    · split
      · next hab =>
        subst hab
        split
        · exact storeWfFrom_mono (by omega) hr.2
        · next hv =>
          simp only [storeWfFrom, Bool.and_eq_true, decide_eq_true_eq]
          exact ⟨⟨⟨hl, ha⟩, by simpa using hv⟩, hr.2⟩
      · simp only [storeWfFrom, Bool.and_eq_true, decide_eq_true_eq]
        exact ⟨⟨⟨hr.1.1.1, hr.1.1.2⟩, hr.1.2⟩, storeWfFrom_storeWrite ha hr.2 (by omega)⟩

/-- Every write inside the store keeps the store's canonical form. -/
theorem Memory.wf_storeWrite {a : Nat} {v : Byte} {cells : List Host.Cell} (ha : a < storeSize)
    (hw : Memory.wf cells = true) : Memory.wf (storeWrite cells a v) = true :=
  storeWfFrom_storeWrite ha hw (Nat.zero_le a)

end Sys2Proof.Machine
end

