-- ==== Sys2Proof/Laws/Turn.lean ====
section
/-! SUPPORT. The contexts' part of a frame event is the turns of the contexts one after another (R75), and what a choice of a
report leaves (R156). -/

namespace Sys2Proof.Machine

@[simp] theorem State.upTo_zero (s : State) : s.upTo 0 = s.arriveFrame := rfl

@[simp] theorem State.upTo_succ (s : State) (n : Nat) : s.upTo (n + 1) = (s.upTo n).turn n := by
  simp [State.upTo, List.range_succ]

/-- The counting of a record, by its step state and cadence (R77, R59, R60). -/
theorem State.counted_eq (s : State) (c : Ctx) : s.counted c =
    { c with
      remaining := if c.state = .timed then c.remaining.map fun n => n - 1 else c.remaining
      position := match s.cadenceOf c with | some pairs => advancePosition pairs c.position | none => c.position } := by
  obtain ⟨_, _, _, st, _, _, _, _, _, _, _, _, _, _, _, _, _, _, _, _, _⟩ := c
  cases st <;> simp only [State.counted, State.cadenceOf, reduceCtorEq, if_true, if_false]
  · split <;> simp_all
  · split <;> simp_all

/-- A live context changed is the context replaced. -/
theorem State.modifyCtx_eq_setCtx {s : State} {slot : Nat} {c : Ctx} (h : s.ctx slot = some c) (f : Ctx → Ctx) :
    s.modifyCtx slot f = s.setCtx slot (some (f c)) := by
  have hl : s.seq.contexts[slot]? = some (some c) := by
    simp only [State.ctx, List.getD_eq_getElem?_getD] at h
    cases hg : s.seq.contexts[slot]? with
    | none => rw [hg] at h; cases h
    | some o => rw [hg] at h; exact congrArg some h
  simp only [State.modifyCtx, State.setCtx, List.modify_eq_set_getElem?, hl]
  rfl

/-- The frame work of a context whose turn is still to come changes the state as its turn does. -/
theorem Work.workSlot_s (w : Work) (slot : Nat) (h : ∀ c, w.s.ctx slot = some c → c.todo = true) :
    (w.workSlot slot).s = w.s.turn slot := by
  unfold Work.workSlot State.turn State.goesOn
  cases hc : w.s.ctx slot with
  | none => rfl
  | some c =>
    simp only [h c hc, State.modifyCtx_eq_setCtx hc, Bool.not_true, Bool.false_eq_true, if_false]
    cases c.news with
    | true => rfl
    | false =>
      simp only [Bool.false_eq_true, if_false, State.counted_eq]
      split
      · rename_i hd; simp only [State.setCtx, State.setContexts] at hd ⊢; rw [hd]
      · rename_i hd; simp only [State.setCtx, State.setContexts] at hd ⊢; rw [hd] <;> rfl

end Sys2Proof.Machine
end

