-- ==== Sys2Proof/Tests/Slice0.lean ====
section
/-! SUPPORT. Tests: ill-formed commands refused, each command on a small state with the result the spec's own examples and
tables give, and, in the second half, for every statement with hypotheses a concrete case that meets them. -/

namespace Sys2Proof.Tests

set_option Elab.async false

open Sys2Proof Sys2Proof.Machine

/-! ### Small states -/

/-- The next state of an outcome, if it is one. -/
def nextOf (o : Host.Outcome State Fault Refusal) : Option State := match o with | .next s => some s | _ => none

/-- What `f` says of the next state of a command. -/
def after {α : Type} (i : Instr) (s : State) (f : State → α) : Option α := (nextOf (exec i s)).map f

/-- A lane frame whose 32 slot bytes are all `b`. -/
def frame (framing service b : Byte) : LaneFrame := ⟨framing, service, List.replicate 32 b⟩

/-- An ALIGNED lane that holds identity `l`, its next frame a B frame, and 0x45 in every slot of the frame it repeats. -/
def laneUp (l : Nat) : Lane :=
  { Lane.initial with align := .aligned, expected := some .b, identity := some l, checks := 8,
                      last := some ⟨frame 0x2D 0xFF 0x45, false⟩ }

/-- All four lanes ALIGNED in order, nothing due; few contexts and heads, so that a test is quickly evaluated. -/
def up : State :=
  { State.reset with
    rx := { State.reset.rx with lanes := (List.range 4).map laneUp, clockTaken := true }
    seq := { State.reset.seq with contexts := List.replicate 2 none }
    pool := { State.reset.pool with heads := List.replicate 2 .free } }

/-- `up` with a frame event due. -/
def due : State := { up with rx := { up.rx with clockDue := true } }

/-- Lane 0 changed to `x`, the others as in `up`. -/
def withLane0 (x : Lane) : State := { up with rx := { up.rx with lanes := x :: [1, 2, 3].map laneUp } }

/-- One 425 Hz entry 5, cadence 3 of 250 ms on and off, template 1 playing them, template 2 a PHRASE, template 3 a LOOP. -/
def loaded : State :=
  { up with
    bank := { tones := up.bank.tones.set 5 ⟨⟨4250, 2000, 3482, 3482⟩, ⟨0, 0, 0, 0⟩⟩
              cadences := up.bank.cadences.set 3 [(25, 25)] }
    seq := { up.seq with templates := (((up.seq.templates.set 1 (some ⟨5, 3, [.tone 5 3 0]⟩)).set 2
      (some ⟨5, 3, [.phrase 7, .silence 1]⟩)).set 3 (some ⟨5, 3, [.loop 7 1, .silence 1]⟩)) }
    su := { windows := up.su.windows.set 0 ⟨.playRecord, 1, 2⟩, mapLoaded := true
            directory := up.su.directory.set 7 (some ⟨.valid, 0, 4, 3, 128⟩), gate := .isOpen
            store := [(4100, 0x45), (4101, 0xC5), (4102, 0x7F)] } }

/-- A context on template `n`, as a PLAY would set it. -/
def ctxOn (n : Nat) : Ctx := freshContext n .replace [] [] none

/-- `loaded` with the context `c` on slot 1. -/
def playing (c : Ctx) : State :=
  { loaded with seq := { loaded.seq with contexts := loaded.seq.contexts.set 1 (some c) } }

/-- Head 0 for phrase 7, running. -/
def run (mode : PlayMode) (phase : HeadPhase) (offset : Nat) : HeadRun :=
  { phase, mode, phrase := 7, start := 4100, length := 3, trim := 128, offset, arrived := none, hasRead := false
    counts := false }

/-- `playing c` with head 0 holding `r`. -/
def headed (c : Ctx) (r : HeadRun) : State :=
  { playing c with pool := { loaded.pool with heads := loaded.pool.heads.set 0 ⟨some r, none⟩ } }

/-- A recording channel 0 of slot 45 into phrase 9. -/
def recording : Capture :=
  { phase := .recording, slot := 45, phrase := 9, window := 0, offset := 100, start := 4196, limit := 80, threshold := 200
    voiceWait := 1, silenceHold := 1, written := 0, lastLoud := none, quiet := 0, suspects := 0, todo := false }

/-- `loaded` with channel 0 at `x`. -/
def capturing (x : Capture) : State := { loaded with caps := [some x, none] }

/-! ### Ill-formed commands (Sys2Proof/WellFormed.lean) -/

theorem test_wf_lane : (Instr.huntByteArrival 4 0x2D).wf = false := by decide
theorem test_wf_check : (Instr.checkComplete 4).wf = false := by decide
theorem test_wf_loss : (Instr.laneLoss 4 .plain).wf = false := by decide
theorem test_wf_mismatch : (Instr.mismatchLaneLoss 4 .plain).wf = false := by decide
theorem test_wf_arrival_lane : (Instr.laneFrameArrival 4 (frame 0x2D 0xFF 0) false).wf = false := by decide
theorem test_wf_arrival_slots : (Instr.laneFrameArrival 0 ⟨0x2D, 0xFF, []⟩ false).wf = false := by decide
theorem test_wf_slot : (Instr.timedStepEnd 128).wf = false ∧ (Instr.waitTimerExpiry 128).wf = false := by decide
theorem test_wf_head :
    (Instr.gatherTimerExpiry 24).wf = false ∧ (Instr.lingerTimerExpiry 24).wf = false ∧
    (Instr.phraseComplete 24).wf = false ∧ (Instr.loopCyclesComplete 24).wf = false := by decide
theorem test_wf_channel :
    (Instr.voiceTimerExpiry 2).wf = false ∧ (Instr.captureFull 2).wf = false ∧ (Instr.captureSilence 2).wf = false := by
  decide
theorem test_wf_schedule :
    (Instr.frameEvent [.contexts 129]).wf = false ∧ (Instr.frameEvent [.headWork 24]).wf = false ∧
    (Instr.frameEvent [.capture 2]).wf = false ∧ (Instr.frameEvent [.timedStepEnd 128]).wf = false := by decide
theorem test_wf_schedule_ends :
    (Instr.frameEvent [.laneLoss 4 (frame 0 0 0) .plain]).wf = false ∧
    (Instr.frameEvent [.laneLoss 0 ⟨0, 0, []⟩ .plain]).wf = false ∧
    (Instr.frameEvent [.waitExpiry 128]).wf = false := by decide
theorem test_wf_args : (Instr.tone 0 (List.replicate 71 0)).wf = false := by decide
theorem test_wf_query_args : (Instr.querySlot 0 (List.replicate 70 0)).wf = false := by decide
theorem test_wf_unknown : (Instr.unknownOrder 0x10 0 []).wf = false := by decide
theorem test_wf_accepts :
    (Instr.laneFrameArrival 3 (frame 0x2D 0xFF 0) false).wf = true ∧ (Instr.unknownOrder 0x11 0 []).wf = true ∧
    (Instr.frameEvent [.contexts 128, .capture 1]).wf = true := by decide

/-! ### Message bodies (sections 9.1 and 12.2) -/

/-- The message worked under R141: STOP of slot 37 with reference 7, check byte 0xBE. -/
theorem test_message_of_R141 : messageOf [0x12, 0x07, 0x25, 0x00] = [0xA5, 0x04, 0x12, 0x07, 0x25, 0x00, 0xBE] := by decide

/-- The example of chapter 9, frame events 500 to 506: each byte in turn, and the message complete. -/
theorem test_parser_clean :
    (State.reset.hear [0xA5, 0x04, 0x12, 0x07]).orders.parser = .body 4 [0x12, 0x07] 29 ∧
    (State.reset.hear [0xA5, 0x04, 0x12, 0x07, 0x25, 0x00, 0xBE]).orders.due = some [0x12, 0x07, 0x25, 0x00] := by decide

theorem test_decode_bodies :
    decodeBody .plain [0x12, 0x07, 0x25, 0x00] = some (.stop 0x07 [0x25, 0x00]) ∧
    decodeBody .plain [0x50, 0x01, 0x05, 0x00, 0x00] = some (.querySummary 0x01 [0x00, 0x00]) ∧
    decodeBody .plain [0x11, 0x01] = some (.unknownOrder 0x11 0x01 []) ∧
    decodeBody .plain [0x50, 0x01, 0x06, 0x00, 0x00] = none := by decide

/-! ### Arithmetic (chapter 2's worked figures) -/

theorem test_encode :
    [0, -1, 31, 32, 344, 651, 909, -909, 1230, 2111, 4095, -4095].map encodeCode =
      [0x00, 0x80, 0x0F, 0x10, 0x45, 0x54, 0x5C, 0xDC, 0x63, 0x70, 0x7F, 0xFF] := by decide
theorem test_decode :
    [0x00, 0x80, 0x0F, 0x10, 0x45, 0x54, 0x5C, 0xDC, 0x63, 0x70, 0x7F, 0xFF].map decodeCode =
      [1, -1, 31, 33, 344, 656, 912, -912, 1248, 2112, 4032, -4032] := by decide
theorem test_phrase_sample :
    [phraseSample 0x45 96, phraseSample 0xC5 96, phraseSample 0x00 64, phraseSample 0x80 64, phraseSample 0x7F 255] =
      [258, -258, 1, 0, 4095] := by decide
theorem test_overlay : overlayByte 0x45 2 651 = 0x5C ∧ overlayByte 0x45 2 0 = 0x40 ∧ overlayByte 0x45 0 651 = 0x5F := by
  decide
theorem test_increments :
    [3500, 4000, 4250, 4400, 9500, 14000, 40000].map incrementOf = [2867, 3277, 3482, 3604, 7782, 11469, 32768] := by decide
theorem test_sine : [54, 108, 256, 512, 768].map sine = [10659, 20159, 32767, 0, -32767] := by decide

/-! ### Lanes, clock, resets -/

theorem test_power_on : after .powerOn due (fun t => (t.control, t.rx.width, t.sender.urgent)) =
    some (none, 4, [.restarted false]) := by decide +kernel

theorem test_hunt_byte : after (.huntByteArrival 0 0x2D) State.reset (fun t => (t.lane 0).map Lane.search) =
    some (some 1) := by decide +kernel

/-- A bad framing byte on an ALIGNED lane (R6): a suspect frame in the elastic store, loss count 1. -/
theorem test_arrival_suspect :
    after (.laneFrameArrival 1 (frame 0x00 0xFF 0x11) false) up (fun t => (t.lane 1).map fun x => (x.losses, x.store)) =
      some (some (1, some ⟨frame 0x00 0xFF 0x11, true⟩)) := by decide +kernel

/-- An arrival on the control lane is a frame event (R11). -/
theorem test_arrival_control :
    after (.laneFrameArrival 0 (frame 0xC0 0xFF 0x11) false) up (fun t => t.rx.clockDue) = some true := by decide +kernel

theorem test_check_complete :
    after (.checkComplete 0) (withLane0 { laneUp 0 with align := .check }) (fun t => (t.map 0, t.sender.urgent)) =
      some (some 0, [.restarted false, .lane 0 0 .aligned]) := by decide +kernel

theorem test_lane_loss :
    after (.laneLoss 0 .plain) (withLane0 { laneUp 0 with losses := 4 }) (fun t => (t.map 0, t.control, t.sender.urgent)) =
      some (none, some 1, [.restarted false, .lane 0 0 .lost]) := by decide +kernel

theorem test_mismatch_lane_loss :
    after (.mismatchLaneLoss 0 .plain) (withLane0 { laneUp 0 with mismatches := 4 })
      (fun t => (t.lane 0).map Lane.align) = some (some .hunt) := by decide +kernel

/-- The 425 Hz tone one frame after its phase was 0, under REPLACE: 651, sent as 0x54 (chapter 2); THROUGH beside it. -/
theorem test_frame_event_tone :
    after (.frameEvent []) { playing { ctxOn 1 with state := .timed } with rx := due.rx }
      (fun t => t.tx.frames[0]?.map fun f => (f.framing, f.slots[1]?, f.slots[2]?)) =
      some (some (0x2D, some 0x54, some 0x45)) := by decide +kernel

/-- Lane 1 is lost at the moment of the frame event, before the Sequencer's work: no context is left on it (R74, R75). -/
theorem test_frame_event_lane_loss :
    after (.frameEvent [.laneLoss 1 (frame 0x00 0xFF 0x11) .plain])
      { due with
        rx := { due.rx with lanes := [laneUp 0, { laneUp 1 with losses := 3 }, laneUp 2, laneUp 3] }
        seq := { up.seq with contexts := List.replicate 33 none ++ [some { ctxOn 1 with tag := some 9 }] } }
      (fun t => (t.map 1, (t.ctx 33).isNone, t.sender.ordinary)) =
      some (none, true, [.ended 33 9 .laneLost 0]) := by decide +kernel

/-- A QUERY HEAD taken before the head's work finds its timer as it stood, with the offset it goes with (R110, R152). -/
theorem test_head_timer_counts_with_its_work :
    let w := Work.start (headed (ctxOn 3) (run .cyclic (.linger 5) 0))
    (w.s.headRun 0).map (fun r => (r.phase, r.offset)) = some (.linger 5, 0) ∧
    ((w.headWork 0).s.headRun 0).map (fun r => (r.phase, r.offset)) = some (.linger 4, 1) ∧
    (((w.headWork 0).headWork 0).s.headRun 0).map (fun r => (r.phase, r.offset)) = some (.linger 4, 1) := by decide +kernel

/-- A wait expiry ahead of the Report Sender's choice is sent at that frame event (R123, R156): 0xA5 of SHORTAGE END. -/
theorem test_wait_expiry_before_the_choice :
    let s := { playing { ctxOn 2 with state := .waiting } with
      pool := { loaded.pool with queue := [⟨1, 7, .gather, 1, false⟩], sentBegin := true }
      sender := { up.sender with urgent := [] } }
    (((Work.start s).act (.waitExpiry 1)).act .offerByte).offered = some 0xA5 ∧
    ((Work.start s).act .offerByte).offered = some 0xFF := by decide +kernel

/-- A programme on lane 1 holds head 0, a waiter's limit runs out, and lane 1 is about to be lost. -/
def lapsing : State :=
  { headed (ctxOn 2) (run .once .running 1) with
    rx := { due.rx with lanes := [laneUp 0, { laneUp 1 with losses := 3 }, laneUp 2, laneUp 3] }
    seq := { loaded.seq with contexts :=
      [none, some { ctxOn 2 with state := .waiting, request := some (7, .once) }] ++ List.replicate 31 none ++
        [some { ctxOn 2 with state := .playing, head := some 0 }] }
    pool := { loaded.pool with
      heads := [⟨some (run .once .running 1), none⟩], queue := [⟨1, 7, .gather, 1, false⟩], sentBegin := true } }

/-- A waiter whose limit runs out at a frame event at which a lane loss frees a head is granted it (R123): the loss is not
taken behind the expiry. -/
theorem test_loss_grants_before_expiry :
    (((Work.start lapsing).act (.laneLoss 1 (frame 0x00 0xFF 0x11) .plain)).s.ctx 1).bind Ctx.head = some 0 := by
  decide +kernel
theorem test_loss_not_taken_behind_expiry :
    (fun w : Work => (w.s.map 1, w.lapsed))
      (((Work.start lapsing).act (.waitExpiry 1)).act (.laneLoss 1 (frame 0x00 0xFF 0x11) .plain)) =
      (some 1, [1]) := by decide +kernel

/-- A lapsed waiter whose lane has been lost since is out of its place, and takes no grant from the one behind it. -/
theorem test_lapsed_waiter_of_ended_programme :
    (fun w : Work => w.withLapsed.pool.queue.map Waiter.slot)
      { Work.start lapsing with lapsed := [1, 5], queued := [⟨5, 7, .digit, 0, false⟩, ⟨1, 7, .digit, 0, false⟩] } =
      [1] := by decide +kernel

/-- Lanes lost together are passed on in the operand's order, the rest ascending (assumption 13). -/
theorem test_loss_order : lossOrdered ⟨false, false, false, [3, 2, 3]⟩ [1, 2, 3] = [3, 2, 1] := by decide

/-- A restart that stands due comes though a LANE PLAN has set the count to 0 since (R148). -/
theorem test_restart_after_lane_plan :
    after .restart { up with rx := { up.rx with qualCount := 0, restarting := true } }
      (fun t => (t.rx.restarting, t.sender.urgent)) = some (false, [.restarted true]) := by decide +kernel

theorem test_restart :
    after .restart { headed { ctxOn 2 with state := .playing, head := some 0 } (run .once .running 0) with
        rx := { up.rx with qualCount := 1600, restarting := true } }
      (fun t => ((t.ctx 1).isNone, (t.headRun 0).isNone, t.su.gate, t.rx.qualCount, t.sender.urgent)) =
      some (true, true, .closedCheck, 0, [.restarted true]) := by decide +kernel

/-! ### Events -/

theorem test_timed_step_end :
    after (.timedStepEnd 1) (playing { ctxOn 2 with state := .timed, step := 1, remaining := some 0 })
      (fun t => (t.ctx 1).map fun c => (c.step, c.state)) = some (some (2, .pending)) := by decide +kernel

theorem test_gather_timer :
    after (.gatherTimerExpiry 0) (headed { ctxOn 2 with state := .gatherWait, head := some 0 } (run .once (.gathering 0) 0))
      (fun t => ((t.headRun 0).map HeadRun.phase, (t.ctx 1).map Ctx.state)) =
      some (some .running, some .playing) := by decide +kernel

theorem test_linger_timer :
    after (.lingerTimerExpiry 0) (headed (ctxOn 2) (run .cyclic (.linger 0) 0)) (fun t => t.headRun 0) = some none := by
  decide +kernel

/-- The last subscriber of a ONCE phrase: complete, PENDING at the next step, the head FREE (R117). -/
theorem test_phrase_complete :
    after (.phraseComplete 0) (headed { ctxOn 2 with state := .playing, head := some 0 } (run .once .running 3))
      (fun t => (t.headRun 0, (t.ctx 1).map fun c => (c.step, c.state, c.head))) =
      some (none, some (1, .pending, none)) := by decide +kernel

/-- The last subscriber of a loop has counted out: the head lingers 5 s, the linger time of power-on (R118, R119). -/
theorem test_loop_complete :
    after (.loopCyclesComplete 0)
      (headed { ctxOn 3 with state := .playing, head := some 0, finished := true } (run .cyclic .running 1))
      (fun t => ((t.headRun 0).map HeadRun.phase, (t.ctx 1).map Ctx.step)) =
      some (some (.linger 40000), some 1) := by decide +kernel

/-- A wait limit of one waiter on slot 1 runs out: SHORTAGE END, its request skipped (R123, R125). -/
theorem test_wait_timer :
    after (.waitTimerExpiry 1)
      { playing { ctxOn 2 with state := .waiting } with
        pool := { loaded.pool with queue := [⟨1, 7, .gather, 0, false⟩], sentBegin := true } }
      (fun t => (t.pool.queue, t.sender.urgent, (t.ctx 1).map fun c => (c.step, c.skipped))) =
      some ([], [.restarted false, .shortageEnd], some (1, 1)) := by decide +kernel

theorem test_voice_timer :
    after (.voiceTimerExpiry 0) (capturing { recording with phase := .waitingVoice 0 })
      (fun t => (t.capture 0, t.sender.ordinary)) = some (none, [.captureEnd 0 9 .noVoice 0 0]) := by decide +kernel

theorem test_capture_full :
    after (.captureFull 0) (capturing { recording with written := 80, lastLoud := some 79 })
      (fun t => (t.entry 9, t.sender.ordinary)) =
      some (some ⟨.valid, 0, 100, 80, 128⟩, [.captureEnd 0 9 .full 80 0]) := by decide +kernel

/-- As the recording of section 8.7 ends, in small: the length stops at the last loud byte (R135). -/
theorem test_capture_silence :
    after (.captureSilence 0) (capturing { recording with written := 80, lastLoud := some 23, quiet := 80, limit := 160 })
      (fun t => (t.entry 9).map Phrase.length) = some (some 24) := by decide +kernel

/-- Chapter 10's example at frame event 900: two END notices make one report, drop count 3, and REFUSED stops the run. -/
theorem test_report_begin :
    after .reportBegin { due with sender := { up.sender with
        urgent := [], drops := 3
        ordinary := [.ended 12 1 .completed 0, .ended 14 2 .completed 0, .refused .noContext (some (0x10, 1)) 0] } }
      (fun t => (t.sender.drops, t.sender.ordinary.length, t.sender.transmission.map fun x => x.bytes.take 9)) =
      some (0, 1, some [0xA5, 11, 0x94, 3, 2, 12, 1, 0, 0]) := by decide +kernel

/-- Between frame events there is no choice of a report (R156). -/
theorem test_report_begin_not_due : after .reportBegin up (fun t => (t.sender.transmission, t.sender.urgent)) =
    some (none, [.restarted false]) := by decide +kernel

theorem test_report_complete :
    after .reportComplete { up with sender := { up.sender with transmission := some ⟨messageOf [0x84, 0], 5⟩ } }
      (fun t => t.sender.transmission) = some none := by decide +kernel

/-! ### Orders -/

/-- The width falls to 1: lanes 1 to 3 become SPARE, with their notices (R10, R15). -/
theorem test_lane_plan_lowers :
    after (.lanePlan 1 [1, 1] .plain) up (fun t => (t.rx.width, (List.range 4).map t.map, t.sender.urgent)) =
      some (1, [some 0, none, none, none],
        [.restarted false, .lane 1 1 .spare, .lane 2 2 .spare, .lane 3 3 .spare]) := by decide +kernel
theorem test_lane_plan_refused :
    after (.lanePlan 1 [2, 4] .plain) up (fun t => t.sender.ordinary) =
      some [.refused .badParam (some (0x01, 1)) 0] := by decide +kernel

/-- Chapter 3's example at frame event 100: group 4, slots 33 and 37, THROUGH, pad 2. -/
theorem test_set_slots :
    after (.setSlots 1 [4, 0x22, 0, 2]) up (fun t => ((t.slots.drop 32).take 6).map SlotEntry.pad) =
      some [0, 2, 0, 0, 0, 2] := by decide +kernel

/-- 4500 Hz is clamped to 4000 Hz, an amplitude of 5000 to 4095 (R27). -/
theorem test_tone :
    after (.tone 1 [2, 0xC8, 0xAF, 0x88, 0x13, 0x9A, 0x10, 0xD0, 0x07]) up (fun t => t.bank.tones[2]?) =
      some (some ⟨⟨40000, 4095, 32768, 0⟩, ⟨4250, 2000, 3482, 0⟩⟩) := by decide +kernel

theorem test_cadence :
    after (.cadence 1 [3, 1, 25, 25, 0, 0, 0, 0, 0, 0]) up (fun t => t.cadence 3) = some [(25, 25)] := by decide +kernel
theorem test_cadence_in_use :
    after (.cadence 1 [3, 1, 10, 10, 0, 0, 0, 0, 0, 0]) (playing { ctxOn 1 with state := .timed })
      (fun t => t.sender.ordinary) = some [.refused .inUse (some (0x04, 1)) 0] := by decide +kernel

/-- Steps as section 12.3 lays them out: TONE 5 under cadence 3 for 2 s, then REPEAT to step 0, 3 times. -/
theorem test_template :
    after (.template 1 [8, 5, 3, 2, 0x31, 5, 200, 0, 6, 0, 0, 3]) up (fun t => t.template 8) =
      some (some ⟨5, 3, [.tone 5 3 200, .rep 0 3]⟩) := by decide +kernel
theorem test_template_fault :
    after (.template 1 [8, 5, 3, 2, 0x31, 5, 200, 0, 6, 1, 0, 3]) up (fun t => t.sender.ordinary) =
      some [.refused .badTemplate (some (0x05, 1)) 1] := by decide +kernel

/-- A PHRASE step finds head 0 FREE and gathers for 160 frames (R111, R112). -/
theorem test_play :
    after (.play 1 [1, 0, 2, 2, 0, 9, 0]) loaded
      (fun t => ((t.ctx 1).map fun c => (c.state, c.head, c.tag), (t.headRun 0).map fun r => (r.phase, r.start))) =
      some (some (.gatherWait, some 0, some 9), some (.gathering 160, 4100)) := by decide +kernel
theorem test_play_tag_in_use :
    after (.play 1 [0, 0, 1, 2, 0, 9, 0]) (playing { ctxOn 1 with state := .timed, tag := some 9 })
      (fun t => t.sender.ordinary) = some [.refused .tagInUse (some (0x10, 1)) 0] := by decide +kernel

theorem test_stop :
    after (.stop 1 [1, 0]) (playing { ctxOn 1 with state := .timed, tag := some 9 })
      (fun t => (t.ctx 1, t.sender.ordinary)) = some (none, [.ended 1 9 .stopped 0]) := by decide +kernel

/-- Window 0 a PLAY window of one unit at base 4095, the highest there is; the others ABSENT (R92, R94). -/
theorem test_window_map :
    after (.windowMap 1 ([1, 0xFF, 0x0F, 1, 0] ++ List.replicate 35 0)) loaded
      (fun t => (t.window 0, t.su.gate, (t.entry 7).map Phrase.state)) =
      some (⟨.play, 4095, 1⟩, .closedCheck, some .unchecked) := by decide +kernel
theorem test_window_map_refused :
    after (.windowMap 1 ([1, 0xFF, 0x0F, 2, 0] ++ List.replicate 35 0)) loaded (fun t => t.sender.ordinary) =
      some [.refused .badWindow (some (0x20, 1)) 0] := by decide +kernel

theorem test_phrase :
    after (.phrase 1 [8, 0, 1, 0, 0, 16, 0, 0, 16, 0, 96]) loaded (fun t => t.entry 8) =
      some (some ⟨.valid, 0, 4096, 4096, 96⟩) := by decide +kernel
theorem test_phrase_refused :
    after (.phrase 1 [8, 0, 1, 0, 1, 16, 0, 0, 16, 0, 96]) loaded (fun t => t.sender.ordinary) =
      some [.refused .badPhrase (some (0x21, 1)) 8] := by decide +kernel

theorem test_directory_check :
    after (.directoryCheck 1 []) { loaded with su := { loaded.su with gate := .closedCheck } }
      (fun t => (t.su.gate, t.sender.ordinary)) = some (.isOpen, [.checked 1 1 0 0xFFFF]) := by decide +kernel

theorem test_head_plan :
    after (.headPlan 1 [51, 0, 0]) up (fun t => (t.pool.gatherWindow, t.pool.lingerTime, t.pool.waitLimit)) =
      some (50, 0, 1) := by decide +kernel

/-- A CAPTURE START whose limit is the room left in the window: 8192 − 8000 bytes (R132). -/
theorem test_capture_start :
    after (.captureStart 1 [0, 45, 0, 9, 0, 0, 0x40, 0x1F, 0, 244, 1, 200, 0, 50, 100]) loaded
      (fun t => (t.capture 0).map fun x => (x.phase, x.start, x.limit)) =
      some (some (.waitingVoice 40000, 12096, 192)) := by decide +kernel

theorem test_capture_stop :
    after (.captureStop 1 [0]) (capturing { recording with written := 3 }) (fun t => (t.entry 9, t.sender.ordinary)) =
      some (some ⟨.valid, 0, 100, 3, 128⟩, [.captureEnd 0 9 .stopped 3 0]) := by decide +kernel

theorem test_query_slot :
    after (.querySlot 1 [37, 0]) up (fun t => t.sender.ordinary) = some [.status 1 0 37 [0, 0, 1, 0, 0]] := by
  decide +kernel
theorem test_query_head :
    after (.queryHead 1 [23, 0]) up (fun t => t.sender.ordinary) = some [.status 1 1 23 [0]] := by decide +kernel
theorem test_query_capture :
    after (.queryCapture 1 [2, 0]) up (fun t => t.sender.ordinary) =
      some [.refused .badParam (some (0x50, 1)) 0] := by decide +kernel
theorem test_query_tone :
    after (.queryTone 1 [5, 0]) loaded (fun t => t.sender.ordinary) =
      some [.status 1 3 5 [0x9A, 0x10, 0xD0, 0x07, 0x9A, 0x0D, 0, 0, 0, 0, 0, 0]] := by decide +kernel
theorem test_query_phrase :
    after (.queryPhrase 1 [7, 0]) loaded (fun t => t.sender.ordinary) =
      some [.status 1 4 7 [2, 0, 4, 0, 0, 3, 0, 0, 128, 2, 1]] := by decide +kernel
/-- The SUMMARY after power-on, number not examined (R152). -/
theorem test_query_summary :
    after (.querySummary 1 [0xFF, 0xFF]) State.reset (fun t => t.sender.ordinary) =
      some [.status 1 5 0xFFFF [0, 0xFF, 0, 0, 0xFF, 0, 0, 0xFF, 0, 0, 0xFF, 0, 0xFF, 0xFF, 0xFF, 0xFF, 0xFF, 4, 1,
        0, 0, 0, 24, 0, 0, 0, 0, 2, 50, 30, 0, 0, 0]] := by decide +kernel
theorem test_unknown_order :
    after (.unknownOrder 0x11 7 []) up (fun t => t.sender.ordinary) =
      some [.refused .unknownOrder (some (0x11, 7)) 0] := by decide +kernel

/-! ### Witnesses: for each statement with hypotheses, a case that meets them -/

theorem next_of_some {o : Host.Outcome State Fault Refusal} (h : (nextOf o).isSome = true) : ∃ t, o = .next t := by
  cases o with
  | next t => exact ⟨t, rfl⟩
  | fault _ | refused _ => cases h

theorem some_of_isSome {α : Type} {o : Option α} (h : o.isSome = true) : ∃ a, o = some a := Option.isSome_iff_exists.mp h

/-- What holds of every listed context holds of every context. -/
theorem ctx_all {s : State} {p : Ctx → Bool} (h : s.seq.contexts.all (fun o => o.all p) = true) (k : Nat) (c : Ctx)
    (hk : s.ctx k = some c) : p c = true := by
  simp only [State.ctx, List.getD_eq_getElem?_getD] at hk
  cases hg : s.seq.contexts[k]? with
  | none => rw [hg] at hk; cases hk
  | some o =>
    rw [hg] at hk
    simp only [Option.getD_some] at hk
    have := List.all_eq_true.mp h o (List.mem_of_getElem? hg)
    rw [hk] at this
    exact this

/-- What holds of every listed head holds of every head. -/
theorem head_all {s : State} {p : HeadRun → Bool} (h : s.pool.heads.all (fun x => x.run.all p) = true) (k : Nat) (r : HeadRun)
    (hk : s.headRun k = some r) : p r = true := by
  simp only [State.headRun, State.head, List.getD_eq_getElem?_getD] at hk
  cases hg : s.pool.heads[k]? with
  | none => rw [hg] at hk; cases hk
  | some o =>
    rw [hg] at hk
    simp only [Option.getD_some] at hk
    have := List.all_eq_true.mp h o (List.mem_of_getElem? hg)
    rw [hk] at this
    exact this

/-- What holds of every listed channel holds of every channel. -/
theorem capture_all {s : State} {p : Capture → Bool} (h : s.caps.all (fun o => o.all p) = true) (k : Nat) (x : Capture)
    (hk : s.capture k = some x) : p x = true := by
  simp only [State.capture, List.getD_eq_getElem?_getD] at hk
  cases hg : s.caps[k]? with
  | none => rw [hg] at hk; cases hk
  | some o =>
    rw [hg] at hk
    simp only [Option.getD_some] at hk
    have := List.all_eq_true.mp h o (List.mem_of_getElem? hg)
    rw [hk] at this
    exact this

theorem quiet_up : up.quiet = true := by decide +kernel
theorem ready_up : up.ready = true := by decide +kernel
theorem ready_loaded : loaded.ready = true := by decide +kernel

/-! The machine as a whole. -/

theorem witness_ExecLeavesQueue : ∃ t, exec (.huntByteArrival 0 0x2D) up = .next t :=
  next_of_some (by decide +kernel)

theorem witness_OnlyFrameEventsWriteTheStore :
    (∃ t, exec (.laneFrameArrival 0 (frame 0xC0 0xFF 0x11) false) up = .next t) ∧
    up.rx.clockDue = false ∧ up.quiet = true ∧ (encodeBody (.stop 7 [0x25, 0])).isSome = true ∧ up.frameBegun = false :=
  ⟨next_of_some (by decide +kernel), rfl, quiet_up, rfl, rfl⟩

theorem witness_StepKeepsStoreCanonical : loaded.storeLaw ∧ ∃ t, step loaded = .next t :=
  ⟨(by decide : Memory.wf [(4100, 0x45), (4101, 0xC5), (4102, 0x7F)] = true), _, rfl⟩

theorem lane_up (p : Nat) (hp : p < 4) (x : Lane) (h : up.lane p = some x) : x = laneUp p := by
  have : up.lane p = some (laneUp p) := by
    interval_cases p <;> rfl
  rw [this] at h
  exact (Option.some.inj h).symm

theorem witness_StepKeepsLaneLaw : up.laneLaw ∧ ∃ t, step up = .next t := by
  refine ⟨⟨fun p hp x h _ => ?_, fun p hp q hq x y hx hy _ _ h => ?_⟩, _, rfl⟩
  · rw [lane_up p hp x h]; exact ⟨p, rfl, hp⟩
  · rw [lane_up p hp x hx, lane_up q hq y hy] at h
    exact Option.some.inj h

/-- Two live contexts with two tags. -/
def tagged : State :=
  { up with seq := { up.seq with contexts := [some { ctxOn 1 with tag := some 1 }, some { ctxOn 1 with tag := some 255 }] } }

theorem witness_StepKeepsTagsDistinct : tagged.tagLaw ∧ ∃ t, step tagged = .next t := by
  refine ⟨fun j _ k _ x y hx hy h _ => ?_, _, rfl⟩
  match j, k with
  | 0, 0 | 1, 1 => rfl
  | 0, 1 => cases hx; cases hy; exact absurd h (by decide)
  | 1, 0 => cases hx; cases hy; exact absurd h (by decide)
  | j + 2, _ => cases (hx : (none : Option Ctx) = some x)
  | 0, k + 2 | 1, k + 2 => cases (hy : (none : Option Ctx) = some y)

theorem witness_StepKeepsGateLaw : up.gateLaw ∧ up.su.gate ≠ .isOpen ∧ ∃ t, step up = .next t :=
  ⟨fun _ => by decide, by decide, _, rfl⟩

/-- One waiter, and its BEGIN notice still unsent. -/
def short : State :=
  { up with pool := { up.pool with queue := [⟨1, 7, .gather, 9, false⟩] }, sender := { up.sender with urgent := [.shortageBegin] } }

theorem witness_StepKeepsShortageLaw : short.shortageLaw ∧ ∃ t, step short = .next t :=
  ⟨by unfold State.shortageLaw; decide, _, rfl⟩

theorem witness_StepKeepsReportBounds : (∃ s : State, s.reportLaw ∧ s.sender.ordinary.length = 64 ∧ s.sender.drops = 255 ∧
    ∃ t, step s = .next t) :=
  ⟨{ up with sender := { up.sender with ordinary := List.replicate 64 .shortageEnd, drops := 255 } },
    by unfold State.reportLaw; decide, by decide, rfl, _, rfl⟩

/-! The order channel. -/

theorem witness_OrderBodiesRoundTrip :
    (Instr.stop 7 [0x25, 0]).wf = true ∧ encodeBody (.stop 7 [0x25, 0]) = some [0x12, 7, 0x25, 0] ∧
    (Instr.lanePlan 1 (List.replicate 70 0) .plain).wf = true ∧ decodeBody .plain [0x12, 7] = some (.stop 7 []) := by decide

theorem witness_ParserCompletesMessage :
    up.orders.parser = .hunt ∧ 2 ≤ [0x12, (7 : Byte)].length ∧ [0x12, (7 : Byte)].length ≤ 72 ∧
    (List.replicate 72 (0 : Byte)).length ≤ 72 := by decide

theorem witness_MessageIsItsCommand :
    (Instr.stop 7 [0x25, 0]).wf = true ∧ encodeBody (.stop 7 [0x25, 0]) = some [0x12, 7, 0x25, 0] ∧ up.ready = true ∧
    up.orders.parser = .hunt := ⟨by decide, by decide, ready_up, rfl⟩

theorem witness_ParserRefusesGarbled :
    up.orders.parser = .hunt ∧ (0xFF : Byte) ≠ 0xA5 ∧ (up.setParser .length).orders.parser = .length ∧
    (1 : Byte).toNat < 2 ∧ 72 < (73 : Byte).toNat ∧ (up.setParser (.check 2 [0x12, 7] 27)).orders.parser ≠ .hunt ∧
    (27 + (228 : Byte).toNat) % 256 ≠ 0 := by decide

theorem witness_UnknownOrdersAreRefused :
    up.ready = true ∧ (0x11 : Byte) ∉ OrderCode.all ∧ (0x10 : Byte) ∈ OrderCode.all ∧ decodeQuery 1 [] = none ∧
    decodeQuery 1 [6, 0, 0] = none := ⟨ready_up, by decide, by decide, rfl, rfl⟩

/-! Arithmetic. -/

theorem witness_CodeBytesDecodeAndEncode :
    ((16 + 0) * 2 ^ 1 ≤ 32 ∧ 32 < (17 + 0) * 2 ^ 1) ∧ ((16 + 15) * 2 ^ 7 ≤ 4095 ∧ 4095 < (17 + 15) * 2 ^ 7) ∧
    (31 = 2 * 15 + 1) ∧ min (-31 : Int).natAbs 4095 < 32 ∧ 2 ^ (1 + 4) ≤ min (32 : Int).natAbs 4095 ∧
    min (32 : Int).natAbs 4095 < 2 ^ (1 + 5) ∧ 2 ^ (7 + 4) ≤ min (-5000 : Int).natAbs 4095 ∧
    min (-5000 : Int).natAbs 4095 < 2 ^ (7 + 5) := by decide

theorem witness_CodeBytesSurviveRecoding : (-4095 : Int) ≤ -4095 ∧ (-4095 : Int) ≤ 4095 := by decide

theorem witness_RoundingAndSamples :
    (0 : Int) < 8 ∧ (8 : Int) % 2 = 0 ∧ (2 * 20 - 8 : Int) % (2 * 8) = 0 ∧ (2 * 21 - 8 : Int) % (2 * 8) ≠ 0 ∧
    (⟨40000, 4095, 32768, 65535⟩ : Oscillator).phase < 65536 ∧ (⟨40000, 4095, 32768, 65535⟩ : Oscillator).amp ≤ 4095 := by
  decide

/-! Tone Bank and slot table. -/

theorem witness_ToneLoadsEntry : up.ready = true ∧ [31, 0, 0, 0, 0, 0, 0, 0, (0 : Byte)].length = 9 := ⟨ready_up, rfl⟩

theorem witness_CadenceLoadsEntry :
    loaded.ready = true ∧ (playing (ctxOn 1)).cadenceInUse 3 = true ∧ loaded.cadenceInUse 3 = false :=
  ⟨ready_loaded, by decide +kernel, by decide +kernel⟩

theorem witness_CadenceGateFollowsPairs :
    1999 < 80 * 25 ∧ 80 * 25 ≤ 2000 ∧ 2000 < 80 * 25 + 80 * 25 ∧ 80 * 25 + 80 * 25 - 1 < 80 * 25 + 80 * 25 := by decide

theorem witness_SetSlotsWritesMarkedSlots :
    up.ready = true ∧ [15, 0xFF, 1, (7 : Byte)].length = 4 ∧ field8 [15, 0xFF, 1, 7] 0 ≤ 15 ∧ 15 < field8 [16, 0, 0, 0] 0 ∧
    field8 [15, 0xFF, 1, 7] 2 ≤ 1 ∧ 1 < field8 [15, 0xFF, 2, 7] 2 ∧ 127 < up.slots.length :=
  ⟨ready_up, by decide, by decide, by decide, by decide, by decide, by decide +kernel⟩

/-! Programme Sequencer. -/

theorem witness_TemplateStoresWholeTemplate :
    up.ready = true ∧ lengthCounts 6 4 3 ([63, 5, 3, 16] ++ List.replicate 64 0) = true ∧
    (playing (ctxOn 1)).templateInUse 1 = true := ⟨ready_up, by decide +kernel, by decide +kernel⟩

theorem witness_ValidTemplatesAreInRange :
    [8, 5, 3, 2, 0x31, 5, 200, 0, 6, 0, 0, (3 : Byte)].length = 4 + 4 * field8 [8, 5, 3, 2] 3 ∧
    (parseTemplate [8, 5, 3, 2, 0x31, 5, 200, 0, 6, 0, 0, 3]).isOk = true ∧
    (parseTemplate [8, 32, 3, 2, 0x31, 5, 200, 0, 6, 0, 0, 3]).isOk = false := by decide

theorem witness_ValidTemplatesAreInRange_by_step :
    let args : List Byte := [8, 5, 3, 3, 0x31, 5, 200, 0, 6, 0, 0, 3, 7, 0, 0, 0]
    let byte (i j : Nat) : Nat := field8 args (4 + 4 * i + j)
    args.length = 4 + 4 * field8 args 3 ∧
    (1 ≤ field8 args 3 ∧ field8 args 3 ≤ 16 ∧ field8 args 1 ≤ 31 ∧ field8 args 2 ≤ 15) ∧
    (∀ i < 2, (∃ st, stepSpelled (byte i 0) (byte i 1) (byte i 2) (byte i 3) st ∧ stepInRange i st) ∧
      (byte i 0 = 6 → ((List.range i).countP fun j => byte j 0 == 6) < 4)) ∧
    ¬ ∃ st, stepSpelled (byte 2 0) (byte 2 1) (byte 2 2) (byte 2 3) st ∧ stepInRange 2 st := by
  refine ⟨by decide, by decide, fun i hi => ?_, ?_⟩
  · interval_cases i
    · exact ⟨⟨.tone 5 3 200, ⟨rfl, rfl, rfl⟩, by decide, by decide, by decide⟩, by decide⟩
    · exact ⟨⟨.rep 0 3, ⟨rfl, rfl, rfl⟩, by decide, by decide⟩, by decide⟩
  · rintro ⟨st, h, -⟩
    cases st with
    | tone t c d => have h : 7 = 1 + 16 * c ∧ _ := h; omega
    | silence _ | phrase _ | loop _ _ | digits _ _ | rep _ _ => exact absurd h.1 (by decide)

/-- A PLAY of template `n` on slot `k`, REPLACE, no preemption, no tag, no digits. -/
def playArgs (k n : Byte) : List Byte := [k, 0, n, 2, 0, 0, 0]

theorem witness_PlayRefusalsInOrder :
    loaded.ready = true ∧ 6 < (playArgs 128 1).length ∧ 9 + field8 (playArgs 128 1) 6 ≤ 72 ∧
    (playArgs 128 1).length = 7 + field8 (playArgs 128 1) 6 ∧ loaded.playRefusal (playArgs 128 1) = some .badSlot ∧
    loaded.playRefusal (playArgs 1 9) = some .noTemplate ∧ (playing (ctxOn 1)).playRefusal (playArgs 1 1) = some .busy ∧
    loaded.playRefusal (playArgs 127 1) = none := by
  refine ⟨ready_loaded, by decide, by decide, by decide, ?_, ?_, ?_, ?_⟩ <;> decide +kernel

/-- `loaded` with all 128 contexts and 24 heads. -/
def full : State :=
  { loaded with
    seq := { loaded.seq with contexts := List.replicate 128 none }
    pool := { loaded.pool with heads := List.replicate 24 .free } }

theorem heads_full (g : Nat) (hg : g < 24) : full.headRun g = none := by
  have : ∀ g < 24, (full.headRun g).isNone = true := by decide +kernel
  simpa using this g hg

/-- A PLAY of template `n` on slot 1 that may preempt. -/
def preemptArgs (n : Byte) : List Byte := [1, 0, n, 2, 1, 0, 0]

theorem witness_PlayBeginsStepZero :
    full.ready = true ∧ lengthCounts 9 1 6 (playArgs 1 1) = true ∧ full.playRefusal (playArgs 1 1) = none ∧
    Insertion.ofCode (field8 (playArgs 1 1) 3) = some .replace ∧ full.template 1 = some ⟨5, 3, [.tone 5 3 0]⟩ ∧
    full.ctx 1 = none ∧ full.seq.contexts.length = 128 ∧ full.pool.heads.length = 24 ∧
    full.playRefusal (playArgs 1 2) = none ∧ full.template 2 = some ⟨5, 3, [.phrase 7, .silence 1]⟩ ∧
    full.playable 7 = true ∧ full.entry 7 = some ⟨.valid, 0, 4, 3, 128⟩ ∧
    (∀ g < 24, ∀ r, full.headRun g = some r → r.phrase = 7 → ∀ timer, r.phase ≠ .gathering timer) ∧
    full.headRun 0 = none ∧ ∀ g < 0, full.headRun g ≠ none := by
  refine ⟨by decide +kernel, by decide, by decide +kernel, rfl, rfl, rfl, by decide +kernel, by decide +kernel,
    by decide +kernel, rfl, by decide +kernel, by decide +kernel, fun g hg r h => ?_, rfl,
    fun g hg => absurd hg (Nat.not_lt_zero g)⟩
  rw [heads_full g hg] at h; cases h

theorem witness_PlayBeginsStepZero_preempting :
    (playing { ctxOn 2 with tag := some 9 }).ready = true ∧ lengthCounts 9 1 6 (preemptArgs 1) = true ∧
    (playing { ctxOn 2 with tag := some 9 }).playRefusal (preemptArgs 1) = none ∧
    (playing { ctxOn 2 with tag := some 9 }).ctx 1 = some { ctxOn 2 with tag := some 9 } ∧
    ({ ctxOn 2 with tag := some 9 } : Ctx).head = none ∧
    ∀ w ∈ (playing { ctxOn 2 with tag := some 9 }).pool.queue, w.slot ≠ 1 :=
  ⟨by decide +kernel, by decide, by decide +kernel, rfl, rfl, by decide⟩

theorem witness_GoingOnTakesSteps :
    (playing { ctxOn 1 with step := 1 }).ctx 1 = some { ctxOn 1 with step := 1 } ∧
    (playing { ctxOn 1 with step := 1 }).template 1 = some ⟨5, 3, [.tone 5 3 0]⟩ ∧
    ([.tone 5 3 0] : List Step).length ≤ 1 ∧
    (∀ s : State, s = { loaded with su := up.su } →
      s.template 2 = some ⟨5, 3, [.phrase 7, .silence 1]⟩ ∧ (ctxOn 2).step = 0 ∧ (ctxOn 2).digitsLeft = 0 ∧
      s.playable 7 = false) ∧
    (let steps : List Step := [.silence 1, .rep 0 2, .silence 3]
     steps[1]? = some (.rep 0 2) ∧ steps[2]? = some (.silence 3) ∧ (steps.take 1).countP Step.isRep = 0 ∧
     initialCounters steps = [2]) ∧
    (let steps : List Step := [.digits 7 0, .silence 3]
     steps[0]? = some (.digits 7 0) ∧ loaded.playable (7 + [0].getD 0 0) = true ∧ 0 < [0].length - 0) :=
  ⟨rfl, rfl, by decide, fun _ h => by subst h; exact ⟨rfl, rfl, rfl, by decide +kernel⟩, by decide,
    ⟨rfl, by decide +kernel, by decide⟩⟩

theorem witness_GoingOnTakesSteps_requests :
    (playing (ctxOn 2)).ctx 1 = some (ctxOn 2) ∧ (playing (ctxOn 2)).template 2 = some ⟨5, 3, [.phrase 7, .silence 1]⟩ ∧
    (playing (ctxOn 3)).ctx 1 = some (ctxOn 3) ∧ (playing (ctxOn 3)).template 3 = some ⟨5, 3, [.loop 7 1, .silence 1]⟩ ∧
    loaded.playable 7 = true ∧
    (let c : Ctx := { ctxOn 4 with params := [0, 1] }
     let s : State := { playing c with
       seq := { (playing c).seq with templates := loaded.seq.templates.set 4 (some ⟨5, 3, [.digits 6 0, .silence 1]⟩) } }
     s.ctx 1 = some c ∧ s.template 4 = some ⟨5, 3, [.digits 6 0, .silence 1]⟩ ∧ c.params.length - c.cursor = 1 + 1 ∧
     s.playable (6 + c.params.getD c.cursor 0) = false ∧ s.playable (6 + c.params.getD (c.cursor + 1) 0) = true) := by
  refine ⟨rfl, rfl, rfl, rfl, by decide +kernel, rfl, rfl, rfl, ?_, ?_⟩ <;> decide +kernel

/-- Every head running. -/
def busy : State := { loaded with pool := { loaded.pool with heads := List.replicate 24 ⟨some (run .once .running 1), none⟩ } }

/-- `busy` with an active channel that holds the last byte of phrase 7's region, or the byte behind it. -/
def overlapping (start : Nat) : State := { busy with caps := [some { recording with start }, none] }

theorem witness_RequestsAreAbandonedOrQueued_playable :
    (overlapping 4102).playable 7 = false ∧ (overlapping 4103).playable 7 = true ∧ up.playable 7 = false ∧
    (overlapping 4103).capture 0 = some { recording with start := 4103 } := by
  refine ⟨?_, ?_, ?_, rfl⟩ <;> decide +kernel

theorem witness_RequestsAreAbandonedOrQueued :
    busy.playable 8 = false ∧ busy.playable 7 = true ∧ (busy.joinable 7 .gather).isNone = true ∧
    busy.freeHead.isNone = true ∧ busy.lingerHead.isNone = true ∧ busy.pool.queue = [] ∧
    .shortageEnd ∉ busy.sender.urgent := by
  refine ⟨?_, ?_, ?_, ?_, ?_, rfl, ?_⟩ <;> decide +kernel

/-- Slot 1 has a context; head 0 gathers for phrase 7. -/
def gathering : State := headed (ctxOn 2) (run .once (.gathering 5) 0)

/-- Slot 1 has a context; head 0 loops phrase 7. -/
def looping : State := headed (ctxOn 3) { run .cyclic .running 1 with arrived := some 0, hasRead := true }

theorem witness_RequestsJoinRunningHeads :
    gathering.playable 7 = true ∧ (gathering.ctx 1).isSome = true ∧
    gathering.headRun 0 = some (run .once (.gathering 5) 0) ∧ looping.playable 7 = true ∧ (looping.ctx 1).isSome = true ∧
    looping.headRun 0 = some { run .cyclic .running 1 with arrived := some 0, hasRead := true } := by
  refine ⟨by decide +kernel, rfl, rfl, by decide +kernel, rfl, rfl⟩

theorem witness_StopEndsProgramme :
    (playing (ctxOn 1)).ready = true ∧ field16 [1, 0] 0 ≤ 127 ∧ 127 < field16 [128, 0] 0 ∧ up.ctx 1 = none ∧
    (playing (ctxOn 1)).ctx 1 = some (ctxOn 1) ∧ (ctxOn 1).head = none ∧
    ∀ w ∈ (playing (ctxOn 1)).pool.queue, w.slot ≠ 1 :=
  ⟨by decide +kernel, by decide, by decide, rfl, rfl, rfl, by decide⟩

theorem witness_StopEndsProgramme_on_a_head :
    (headed { ctxOn 3 with state := .playing, head := some 0 } (run .cyclic .running 1)).ready = true ∧
    (headed { ctxOn 3 with state := .playing, head := some 0 } (run .cyclic .running 1)).ctx 1 =
      some { ctxOn 3 with state := .playing, head := some 0 } ∧
    (headed { ctxOn 3 with state := .playing, head := some 0 } (run .cyclic .running 1)).headRun 0 =
      some (run .cyclic .running 1) ∧
    ∀ k < 128, k ≠ 1 → ∀ d,
      (headed { ctxOn 3 with state := .playing, head := some 0 } (run .cyclic .running 1)).ctx k = some d → d.head ≠ some 0 :=
  ⟨by decide +kernel, rfl, rfl, fun k _ hk d hd => by
    match k with
    | 0 => cases (hd : (none : Option Ctx) = some d)
    | 1 => exact absurd rfl hk
    | k + 2 => cases (hd : (none : Option Ctx) = some d)⟩

/-- The programmes of slots 0 and 1 hear head 0. -/
def shared : State :=
  { headed (ctxOn 2) (run .once .running 1) with
    seq := { loaded.seq with contexts := List.replicate 2 (some { ctxOn 2 with state := .playing, head := some 0 }) } }

theorem witness_StopEndsProgramme_on_a_shared_head :
    shared.ready = true ∧ shared.ctx 1 = some { ctxOn 2 with state := .playing, head := some 0 } ∧
    shared.headRun 0 = some (run .once .running 1) ∧
    ∃ k < 128, k ≠ 1 ∧ ∃ d, shared.ctx k = some d ∧ d.head = some 0 :=
  ⟨by decide +kernel, rfl, rfl, 0, by decide, by decide, _, rfl, rfl⟩

/-! Head Pool. -/

theorem witness_GatherTimerStartsHead :
    (headed { ctxOn 2 with state := .gatherWait, head := some 0 } (run .once (.gathering 0) 0)).headRun 0 =
      some (run .once (.gathering 0) 0) ∧ (run .once (.gathering 0) 0).phase = .gathering 0 := ⟨rfl, rfl⟩

theorem witness_TimedStepAndLingerEnd :
    (playing { ctxOn 2 with state := .timed, remaining := some 0 }).ctx 1 =
      some { ctxOn 2 with state := .timed, remaining := some 0 } ∧
    (headed (ctxOn 2) (run .cyclic (.linger 0) 0)).headRun 0 = some (run .cyclic (.linger 0) 0) := ⟨rfl, rfl⟩

/-- One waiter, on slot 1, whose limit has run out. -/
def waited : State :=
  { playing { ctxOn 2 with state := .waiting } with
    pool := { loaded.pool with queue := [⟨1, 7, .gather, 0, false⟩], sentBegin := true } }

theorem witness_WaitTimerAbandonsRequest :
    waited.ready = true ∧ ⟨1, 7, .gather, 0, false⟩ ∈ waited.pool.queue ∧ waited.ctx 1 = some { ctxOn 2 with state := .waiting } :=
  ⟨by decide +kernel, List.mem_cons_self, rfl⟩

theorem witness_StopEndsProgramme_of_a_waiter :
    waited.ready = true ∧ ({ ctxOn 2 with state := .waiting } : Ctx).head = none ∧
    (∃ w ∈ waited.pool.queue, w.slot = 1) ∧ .shortageBegin ∉ waited.sender.urgent ∧
    (short.pool.queue.filter (fun w => w.slot ≠ 1)) = [] ∧ .shortageBegin ∈ short.sender.urgent :=
  ⟨by decide +kernel, rfl, ⟨_, List.mem_cons_self, rfl⟩, by decide, by decide, by decide⟩

theorem witness_WindowMapStopsEverything_with_a_waiter :
    waited.ready = true ∧ waited.caps.length = 2 ∧ (waited.pool.queue.map Waiter.slot).Nodup ∧
    waited.ctx 1 = some { ctxOn 2 with state := .waiting } ∧ waited.pool.queue ≠ [] ∧
    .shortageBegin ∉ waited.sender.urgent ∧ short.ready = true ∧ short.pool.queue ≠ [] ∧
    .shortageBegin ∈ short.sender.urgent := by
  refine ⟨?_, rfl, ?_, rfl, ?_, ?_, ?_, ?_, ?_⟩ <;> decide +kernel

/-- The programme of slot 1 is bound to head 0, which holds `r`; the one of slot 0 waits for phrase 7. -/
def awaited (r : HeadRun) (finished : Bool) : State :=
  { headed (ctxOn 2) r with
    seq := { loaded.seq with contexts := [some { ctxOn 2 with state := .waiting },
      some { ctxOn 3 with state := .playing, head := some 0, finished }] }
    pool := { loaded.pool with heads := [⟨some r, none⟩], queue := [⟨0, 7, .gather, 9, false⟩], sentBegin := true } }

theorem witness_PhraseCompletes :
    (headed { ctxOn 2 with state := .playing, head := some 0 } (run .once .running 3)).headRun 0 =
      some (run .once .running 3) ∧ (run .once .running 3).offset = (run .once .running 3).length ∧
    (headed { ctxOn 2 with state := .playing, head := some 0 } (run .once .running 3)).pool.queue = [] ∧
    (awaited (run .once .running 3) false).headRun 0 = some (run .once .running 3) ∧
    (awaited (run .once .running 3) false).pool.queue ≠ [] := ⟨rfl, rfl, rfl, rfl, by decide⟩

theorem witness_LoopCyclesComplete :
    (headed { ctxOn 3 with state := .playing, head := some 0, finished := true } (run .cyclic .running 1)).headRun 0 =
      some (run .cyclic .running 1) ∧
    (headed { ctxOn 3 with state := .playing, head := some 0, finished := true } (run .cyclic .running 1)).finishedOn 0 ≠ [] ∧
    (awaited (run .cyclic .running 1) true).headRun 0 = some (run .cyclic .running 1) ∧
    (awaited (run .cyclic .running 1) true).finishedOn 0 = (awaited (run .cyclic .running 1) true).subscribers 0 ∧
    (awaited (run .cyclic .running 1) true).finishedOn 0 ≠ [] ∧ (awaited (run .cyclic .running 1) true).pool.queue ≠ [] :=
  ⟨rfl, by decide +kernel, rfl, by decide +kernel, by decide +kernel, by decide⟩

theorem witness_OfferGrantsAndCollapses :
    let s := { tagged with pool := { loaded.pool with queue := [⟨0, 8, .gather, 3, false⟩, ⟨1, 7, .gather, 4, false⟩] }, su := loaded.su }
    s.pool.queue = [⟨0, 8, .gather, 3, false⟩] ++ ⟨1, 7, .gather, 4, false⟩ :: [] ∧ s.playable 8 = false ∧ s.playable 7 = true ∧
    s.entry 7 = some ⟨.valid, 0, 4, 3, 128⟩ ∧ 0 < s.pool.heads.length ∧ (s.pool.queue.map Waiter.slot).Nodup ∧
    ∀ v ∈ s.pool.queue, (s.ctx v.slot).isSome = true := by
  refine ⟨rfl, ?_, ?_, ?_, ?_, ?_, ?_⟩ <;> decide +kernel

theorem witness_HeadPlanReplacesPlan : up.ready = true ∧ [50, 255, (1 : Byte)].length = 3 := ⟨ready_up, rfl⟩

/-! Store unit. -/

theorem witness_StoreReadsLastWrite : Memory.wf loaded.su.store = true ∧ 16777215 < 16777216 := by decide

theorem witness_WindowMapStopsEverything :
    loaded.ready = true ∧ loaded.caps.length = 2 ∧ windowInRange 2 4095 1 ∧ windowInRange 1 0 4096 ∧ windowInRange 0 65535 0 ∧
    ¬ windowInRange 1 4095 2 ∧ ¬ windowInRange 1 0 0 ∧ ¬ windowInRange 3 0 1 := by
  refine ⟨ready_loaded, rfl, ?_⟩
  unfold windowInRange
  decide

theorem witness_PhraseRefusalsInOrder :
    loaded.ready = true ∧ 5 + 8 * field8 [0, 0, 8] 2 ≤ 72 ∧ ¬ 5 + 8 * field8 [0, 0, 9] 2 ≤ 72 ∧
    512 < field16 [0xFF, 1, 2] 0 + field8 [0xFF, 1, 2] 2 ∧ field16 [0xFF, 1, 1] 0 + field8 [0xFF, 1, 1] 2 ≤ 512 ∧
    field8 [8, 0, 1, 8] 3 = 8 ∧ field24 [8, 0, 1, 0, 0, 0, 0, 0, 0, 0, 0] 7 = 0 ∧ loaded.su.mapLoaded = true ∧
    (loaded.window 0).size * 4096 < 4097 + 4096 ∧
    (capturing recording).capture 0 = some recording := ⟨ready_loaded, by decide⟩

theorem witness_PhraseWritesEntries :
    loaded.ready = true ∧ loaded.su.directory.length = 512 ∧
    field16 [0xFF, 1, 1, 0, 0, 16, 0, 0, 16, 0, 96] 0 + field8 [0xFF, 1, 1, 0, 0, 16, 0, 0, 16, 0, 96] 2 ≤ 512 ∧
    field24 [0xFF, 1, 1, 0, 0, 16, 0, 0, 16, 0, 96] 7 ≠ 0 ∧ (loaded.window 0).attr ≠ .absent ∧
    4096 + 4096 ≤ (loaded.window 0).size * 4096 ∧ ∀ c < 2, loaded.capture c = none :=
  ⟨ready_loaded, by decide +kernel, by decide, by decide, by decide, by decide, by decide⟩

theorem witness_DirectoryCheckOpensGate :
    up.ready = true ∧ up.su.gate = .closedBoth ∧ loaded.ready = true ∧ loaded.su.gate ≠ .closedBoth :=
  ⟨ready_up, rfl, ready_loaded, by decide⟩

/-! Capture Channels. -/

/-- A CAPTURE START of channel 0 for slot 45, phrase 9, window 0 at offset `lo + 256 × hi`. -/
def captureArgs (lo hi : Byte) : List Byte := [0, 45, 0, 9, 0, 0, lo, hi, 0, 244, 1, 200, 0, 50, 100]

theorem witness_CaptureStartChecksAndSets :
    loaded.ready = true ∧ (captureArgs 0xFF 0x1F).length = 15 ∧ loaded.captureRefusal (captureArgs 0xFF 0x1F) = none ∧
    loaded.captureRefusal (captureArgs 0x00 0x20) = some .badParam ∧
    up.captureRefusal (captureArgs 0 0) = some .noMap ∧
    (capturing recording).captureRefusal (captureArgs 0 0) = some .captureBusy := by
  refine ⟨ready_loaded, rfl, ?_, ?_, ?_, ?_⟩ <;> decide +kernel

theorem witness_CaptureStopEndsChannel :
    (capturing recording).ready = true ∧ (capturing recording).capture 0 = some recording ∧ field8 [1] 0 ≤ 1 ∧
    1 < field8 [2] 0 ∧ (capturing recording).capture 1 = none := ⟨by decide +kernel, rfl, by decide, by decide, rfl⟩

theorem witness_RecordingWritesOneByte : loaded.storeLaw ∧ recording.phase = .recording :=
  ⟨(by decide : Memory.wf [(4100, 0x45), (4101, 0xC5), (4102, 0x7F)] = true), rfl⟩

theorem witness_CaptureEndings :
    (capturing recording).capture 0 = some recording ∧
    ({ recording with phase := .waitingVoice 0 } : Capture).phase = .waitingVoice 0 ∧
    ({ recording with written := 80 } : Capture).written = recording.limit ∧
    (0 < recording.silenceHold ∧ ({ recording with quiet := 80 } : Capture).quiet = recording.silenceHold * 80) :=
  ⟨rfl, rfl, rfl, by decide⟩

/-! Lanes and frame events. -/

theorem witness_HuntByteArrives :
    up.quiet = true ∧ (3 : Nat) < 4 ∧ up.lane 3 = some (laneUp 3) ∧ State.reset.lane 0 = some Lane.initial :=
  ⟨quiet_up, by decide, rfl, rfl⟩

theorem witness_LaneFrameArrives :
    up.quiet = true ∧ up.rx.clockDue = false ∧ (frame 0xC0 0xFF 0).slots.length = 32 ∧ up.lane 0 = some (laneUp 0) ∧
    framingCorrect (laneUp 0) 0xC0 = true ∧ framingCorrect (laneUp 0) 0xC1 = false ∧
    framingMismatch (laneUp 0) 0xC3 = true ∧ framingMismatch (laneUp 0) 0xC4 = false :=
  ⟨quiet_up, rfl, rfl, rfl, by decide, by decide, by decide, by decide⟩

theorem witness_CheckCompletes :
    (withLane0 { laneUp 0 with align := .check }).lane 0 = some { laneUp 0 with align := .check } ∧
    (withLane0 { laneUp 0 with align := .check }).map 0 = none ∧
    (withLane0 { laneUp 1 with align := .check }).map 1 ≠ none ∧
    (withLane0 { laneUp 0 with align := .check }).control = some 1 := by
  refine ⟨rfl, ?_, ?_, ?_⟩ <;> decide

theorem witness_LaneLossPassesOn :
    (withLane0 { laneUp 0 with losses := 4 }).lane 0 = some { laneUp 0 with losses := 4 } ∧
    (withLane0 { laneUp 0 with losses := 4 }).map 0 = some 0 ∧
    (withLane0 { laneUp 0 with align := .spare, mismatches := 4 }).lane 0 =
      some { laneUp 0 with align := .spare, mismatches := 4 } ∧
    (withLane0 { laneUp 0 with losses := 4 }).control = some 0 ∧
    (let s : State := { up with rx := { up.rx with lanes := [laneUp 0, laneUp 1, laneUp 2, { laneUp 3 with losses := 4 }] } }
     s.map 3 = some 3 ∧ s.control ≠ some 3) := by
  refine ⟨rfl, ?_, rfl, ?_, ?_⟩ <;> decide

theorem witness_LanePlanChangesWidth :
    up.ready = true ∧ up.rx.width = 4 ∧ 2 ^ 1 ≤ (2 : Nat) ∧ (1 : Nat) < 2 ^ 1 ∧ up.map 3 = some 3 ∧ up.control = some 0 ∧
    up.pool.queue = [] ∧ (withLane0 Lane.initial).ready = true ∧ (withLane0 Lane.initial).control = some 1 :=
  ⟨ready_up, rfl, by decide, by decide, by decide, by decide, rfl, by decide +kernel, by decide⟩

/-- A programme hears a running head; a frame event is due. -/
def hearing : State :=
  { headed { ctxOn 2 with state := .playing, head := some 0 } (run .once .running 1) with rx := due.rx }

theorem inStore_hearing : hearing.inStore :=
  ⟨fun h r hr => of_decide_eq_true
      (head_all (p := fun r => decide (r.start + r.offset < 16777216)) (by decide) h r hr),
    fun c x hx => of_decide_eq_true
      (capture_all (p := fun x => decide (x.start + x.written < 16777216)) (by decide) c x hx)⟩

theorem witness_FrameEventSendsFrames :
    hearing.quiet = true ∧ hearing.frameDue = true ∧ hearing.inStore ∧ up.quiet = true ∧ up.frameDue = false ∧
    hearing.map 3 = some 3 ∧ hearing.ctx 127 = none ∧ hearing.slots[127]? = some ⟨.through, 0⟩ ∧
    contributes (laneUp 3) ⟨frame 0x2D 0xFF 0x45, false⟩ :=
  ⟨by decide +kernel, by decide, inStore_hearing, quiet_up, by decide, by decide, rfl, by decide, .inr ⟨rfl, rfl⟩⟩

/-- `hearing` with all 128 contexts. -/
def hearing128 : State :=
  { hearing with seq := { hearing.seq with contexts := hearing.seq.contexts ++ List.replicate 126 none } }

theorem witness_FrameEventRunsProgrammes :
    hearing128.quiet = true ∧ hearing128.frameDue = true ∧ hearing128.inStore ∧ hearing128.seq.contexts.length = 128 ∧
    (∀ k c, hearing128.ctx k = some c → c.state ≠ .pending) ∧ hearing128.headOutput 0 = -344 ∧
    hearing128.headRun 0 = some (run .once .running 1) :=
  ⟨by decide +kernel, by decide, inStore_hearing, by decide +kernel,
    fun k c h => of_decide_eq_true (ctx_all (p := fun c => decide (c.state ≠ .pending)) (by decide +kernel) k c h), by decide,
    rfl⟩

/-- `hearing128` with a PENDING programme on slot 0 whose step is a PHRASE. -/
def pendingToo : State :=
  { hearing128 with seq := { hearing128.seq with contexts := hearing128.seq.contexts.set 0 (some (ctxOn 2)) } }

theorem witness_FrameEventRunsProgrammes_with_a_pending_context :
    pendingToo.quiet = true ∧ pendingToo.frameDue = true ∧ pendingToo.seq.contexts.length = 128 ∧
    (∃ c, pendingToo.ctx 0 = some c ∧ c.state = .pending) ∧
    ((pendingToo.upTo 1).ctx 0).map (fun c => (c.state, c.head)) = some (.gatherWait, some 1) ∧
    ((pendingToo.upTo 2).headRun 0).map (fun r => (r.arrived, r.hasRead)) = some (some 1, false) ∧
    pendingToo.inStore := by
  refine ⟨?_, ?_, ?_, ⟨_, rfl, rfl⟩, ?_, ?_, inStore_hearing⟩ <;> decide +kernel

/-- Channel 0 records; a frame event is due, and the first byte of a report stands to be sent. -/
def receiving : State :=
  { capturing recording with
    rx := due.rx, sender := { up.sender with transmission := some ⟨[0xA5, 2, 0x12, 7, 0x17], 0⟩, hold := false } }

theorem inStore_receiving : receiving.inStore :=
  ⟨fun h r hr => of_decide_eq_true
      (head_all (p := fun r => decide (r.start + r.offset < 16777216)) (by decide) h r hr),
    fun c x hx => of_decide_eq_true
      (capture_all (p := fun x => decide (x.start + x.written < 16777216)) (by decide) c x hx)⟩

theorem witness_FrameEventReceives :
    receiving.quiet = true ∧ receiving.frameDue = true ∧ receiving.inStore ∧ receiving.control = some 0 ∧
    receiving.map 0 = some 0 ∧ receiving.lane 0 = some (laneUp 0) ∧
    contributes (laneUp 0) ⟨frame 0x2D 0xFF 0x45, false⟩ ∧
    receiving.sender.transmission = some ⟨[0xA5, 2, 0x12, 7, 0x17], 0⟩ ∧ receiving.sender.hold = false ∧
    receiving.capture 0 = some recording ∧ receiving.map (recording.slot / 32) = some 1 ∧
    receiving.lane 1 = some (laneUp 1) ∧ contributes (laneUp 1) ⟨frame 0x2D 0xFF 0x45, false⟩ ∧ receiving.storeLaw ∧
    (∀ d < 2, ∀ z, d ≠ 0 → receiving.capture d = some z → z.start + z.written ≠ recording.start + recording.written) :=
  ⟨by decide +kernel, by decide, inStore_receiving, by decide, by decide, rfl, .inr ⟨rfl, rfl⟩, rfl, rfl, rfl, by decide, rfl,
    .inr ⟨rfl, rfl⟩, (by decide : Memory.wf [(4100, 0x45), (4101, 0xC5), (4102, 0x7F)] = true),
    fun d hd z h hz => by
      interval_cases d
      · exact absurd rfl h
      · cases (hz : (none : Option Capture) = some z)⟩

theorem inStore_due : due.inStore :=
  ⟨fun h r hr => of_decide_eq_true
      (head_all (p := fun r => decide (r.start + r.offset < 16777216)) (by decide) h r hr),
    fun c x hx => of_decide_eq_true
      (capture_all (p := fun x => decide (x.start + x.written < 16777216)) (by decide) c x hx)⟩

/-- Nothing is in transmission at a frame event that is due: the power-on notice waits; none waits. -/
theorem witness_FrameEventReceives_choosing :
    due.quiet = true ∧ due.frameDue = true ∧ due.inStore ∧ due.sender.hold = false ∧ due.sender.transmission = none ∧
    due.control = some 0 ∧ due.map 0 = some 0 ∧ due.lane 0 = some (laneUp 0) ∧
    contributes (laneUp 0) ⟨frame 0x2D 0xFF 0x45, false⟩ ∧ due.chooses [0x81, 0, 0] [] [] false :=
  ⟨by decide +kernel, by decide, inStore_due, rfl, rfl, by decide, by decide, rfl, .inr ⟨rfl, rfl⟩,
    .inl ⟨_, rfl, rfl, rfl, rfl, rfl⟩⟩

/-- An END notice with the one behind it; what no control lane leaves to the sender. -/
theorem witness_FrameEventReceives_choosing_ends :
    (let s : State := { due with sender := { due.sender with
        urgent := [], ordinary := [.ended 1 2 .completed 0, .ended 3 4 .stopped 1, .refused .idle none 0], drops := 5 } }
     s.chooses [0x94, 5, 2, 1, 2, 0, 0, 3, 4, 1, 1] [] [.refused .idle none 0] false) ∧
    State.reset.control = none ∧ State.reset.frameDue = true ∧ State.reset.quiet = true :=
  ⟨.inr ⟨rfl, rfl, rfl, .inr ⟨[.ended 1 2 .completed 0, .ended 3 4 .stopped 1], rfl, by decide, by decide, by decide,
      .inr fun n h => by cases h; rfl, rfl⟩⟩, by decide, by decide, by decide +kernel⟩

theorem witness_RestartKeepsLoadedTables :
    up.rx.restarting = false ∧
    { up with rx := { up.rx with qualCount := 1600, restarting := true } }.rx.restarting = true ∧
    { up with rx := { up.rx with qualCount := 1600, restarting := true } }.endingsQuiet = true :=
  ⟨rfl, rfl, by decide +kernel⟩

/-! Queries and reports. -/

theorem witness_QueriesAnswerOnce :
    loaded.ready = true ∧ field16 [127, 0] 0 ≤ 127 ∧ 127 < field16 [128, 0] 0 ∧ field16 [0xFF, 1] 0 ≤ 511 ∧
    511 < field16 [0, 2] 0 := ⟨ready_loaded, by decide, by decide, by decide, by decide⟩

theorem witness_ReportsFollowLayouts :
    up.slots[127]? = some ⟨.through, 0⟩ ∧ up.ctx 0 = none ∧ (playing (ctxOn 1)).ctx 1 = some (ctxOn 1) ∧
    up.headRun 0 = none ∧ looping.headRun 0 = some { run .cyclic .running 1 with arrived := some 0, hasRead := true } ∧
    up.capture 0 = none ∧ (capturing recording).capture 0 = some recording ∧
    loaded.bank.tones[5]? = some ⟨⟨4250, 2000, 3482, 3482⟩, ⟨0, 0, 0, 0⟩⟩ ∧
    loaded.entry 7 = some ⟨.valid, 0, 4, 3, 128⟩ ∧ loaded.entry 8 = none ∧ up.rx.lanes.length = 4 := by
  refine ⟨?_, rfl, rfl, rfl, rfl, rfl, rfl, rfl, ?_, ?_, rfl⟩ <;> decide +kernel

theorem witness_NoticesFindTheirPlaces :
    up.sender.ordinary.length < 64 ∧ 64 ≤ (List.replicate 64 Notice.shortageEnd).length ∧
    (∀ j q, Notice.lane j 2 q ∉ [Notice.restarted false, .lane 1 1 .aligned]) :=
  ⟨by decide, by decide, fun j q h => by simp at h⟩

/-- The choice of the frame event that is due has been made. -/
def begun : State := { due with sender := { due.sender with transmission := some ⟨messageOf [0x84, 0], 0⟩ } }

theorem witness_ReportsBeginAndComplete_under_way :
    begun.frameBegun = true ∧ (Instr.stop 7 [0x25, 0]).wf = true ∧
    encodeBody (.stop 7 [0x25, 0]) = some [0x12, 7, 0x25, 0] ∧ ∃ t, exec (.frameEvent []) begun = .next t :=
  ⟨by decide, by decide, by decide, next_of_some (by decide +kernel)⟩

theorem witness_ReportsBeginAndComplete :
    up.quiet = true ∧ up.frameDue = false ∧ due.quiet = true ∧ due.frameDue = true ∧ due.control ≠ none ∧
    due.sender.transmission = none ∧ due.sender.hold = false ∧ due.chooses [0x81, 0, 0] [] [] false ∧
    { due with sender := { due.sender with urgent := [], ordinary := List.replicate 9 (Notice.ended 1 2 .completed 0) } }.chooses
      (0x94 :: 0 :: 8 :: (List.replicate 8 [1, 2, 0, 0]).flatten) [] [.ended 1 2 .completed 0] false ∧
    (messageOf [0x84, 0])[4]? = some 0x7A ∧ (messageOf [0x84, 0]).length = 5 :=
  ⟨quiet_up, by decide, by decide +kernel, by decide, by decide, rfl, rfl, .inl ⟨_, rfl, rfl, rfl, rfl, rfl⟩,
    .inr ⟨rfl, rfl, rfl, .inr ⟨List.replicate 8 (.ended 1 2 .completed 0), rfl, by decide, by decide, by decide, .inl rfl, rfl⟩⟩,
    by decide, by decide⟩

end Sys2Proof.Tests
end

/-! PROOF. Sample coding and arithmetic (spec/02_sample_coding_and_arithmetic.md): code bytes by their fields and bands,
recoding, the rounded quotient, the samples, and the sine table against the real sine. -/

namespace Sys2Proof.Machine

/-! ### Code bytes: fields, bands, decoding and encoding (R22, R23) -/

/-- The code byte of a sign, a segment and a step (section 12.1). -/
def codeByte (negative : Bool) (e k : Nat) : Byte :=
  BitVec.ofNat 8 ((if negative then 128 else 0) + 16 * e + k)

/-- The magnitudes that encode to segment `e` and step `k` (R23): two of them in segment 0, a step of 2^e above. -/
def InBand (e k m : Nat) : Prop :=
  if e = 0 then 2 * k ≤ m ∧ m < 2 * k + 2 else (16 + k) * 2 ^ e ≤ m ∧ m < (17 + k) * 2 ^ e

/-- A magnitude with the sign of a code byte. -/
def signed (negative : Bool) (m : Nat) : Int := if negative then -m else m

theorem inBand_zero {k m : Nat} : InBand 0 k m ↔ 2 * k ≤ m ∧ m < 2 * k + 2 := by simp [InBand]

theorem inBand_of_pos {e k m : Nat} (he : 1 ≤ e) : InBand e k m ↔ (16 + k) * 2 ^ e ≤ m ∧ m < (17 + k) * 2 ^ e := by
  simp [InBand, Nat.one_le_iff_ne_zero.1 he]

@[simp] theorem natAbs_signed (n : Bool) (m : Nat) : (signed n m).natAbs = m := by cases n <;> simp [signed]

theorem signed_neg_iff {n : Bool} {m : Nat} (hm : 1 ≤ m) : signed n m < 0 ↔ n = true := by
  cases n <;> simp [signed]; omega

theorem signed_decide_natAbs (v : Int) : signed (decide (v < 0)) v.natAbs = v := by
  simp only [signed, decide_eq_true_eq]
  split <;> omega

theorem codeByte_toNat {e k : Nat} (n : Bool) (he : e < 8) (hk : k < 16) :
    (codeByte n e k).toNat = (if n then 128 else 0) + 16 * e + k := by
  cases n <;> simp only [codeByte, BitVec.toNat_ofNat] <;> exact Nat.mod_eq_of_lt (by simp; omega)

/-- Every byte is the code byte of its fields. -/
theorem exists_codeByte (b : Byte) : ∃ n e k, e < 8 ∧ k < 16 ∧ b = codeByte n e k := by
  have hb := b.isLt
  refine ⟨decide (128 ≤ b.toNat), b.toNat / 16 % 8, b.toNat % 16, by omega, by omega, BitVec.eq_of_toNat_eq ?_⟩
  rw [codeByte_toNat _ (by omega) (by omega)]
  simp only [decide_eq_true_eq]
  split <;> omega

theorem extreme_fields_iff {n : Bool} {e k : Nat} (he : e < 8) (hk : k < 16) :
    (e = 0 ∧ k = 0 ↔ codeByte n e k = 0x00 ∨ codeByte n e k = 0x80) ∧
    (e = 7 ∧ k = 15 ↔ codeByte n e k = 0x7F ∨ codeByte n e k = 0xFF) := by
  simp only [← BitVec.toNat_inj, codeByte_toNat n he hk]
  cases n <;> simp <;> omega

/-- R22 by the byte's fields. -/
theorem decodeCode_codeByte {e k : Nat} (n : Bool) (he : e < 8) (hk : k < 16) :
    decodeCode (codeByte n e k) = signed n (magnitudeOf e k) := by
  have he' : ((if n then 128 else 0) + 16 * e + k) / 16 % 8 = e := by cases n <;> simp <;> omega
  have hk' : ((if n then 128 else 0) + 16 * e + k) % 16 = k := by cases n <;> simp <;> omega
  unfold decodeCode
  rw [codeByte_toNat n he hk, he', hk']
  cases n
  · rw [if_pos (by simp; omega)]; rfl
  · rw [if_neg (by simp; omega)]; rfl

@[simp] theorem magnitudeOf_zero (k : Nat) : magnitudeOf 0 k = 2 * k + 1 := by simp [magnitudeOf]

/-- Above segment 0 the magnitude is the middle of its band. -/
theorem two_mul_magnitudeOf {e k : Nat} (he : 1 ≤ e) : 2 * magnitudeOf e k = (33 + 2 * k) * 2 ^ e := by
  obtain ⟨f, rfl⟩ := Nat.exists_eq_add_of_le' he
  simp only [magnitudeOf, Nat.add_eq_zero_iff, one_ne_zero, and_false, if_false, Nat.add_sub_cancel]
  ring

theorem magnitudeOf_bounds {e k : Nat} (he : e < 8) (hk : k < 16) : 1 ≤ magnitudeOf e k ∧ magnitudeOf e k ≤ 4032 ∧
    (magnitudeOf e k = 1 ↔ e = 0 ∧ k = 0) ∧ (magnitudeOf e k = 4032 ↔ e = 7 ∧ k = 15) := by
  interval_cases e <;> simp [magnitudeOf] <;> omega

theorem inBand_magnitudeOf (e k : Nat) : InBand e k (magnitudeOf e k) := by
  rcases Nat.eq_zero_or_pos e with rfl | he
  · simp [inBand_zero]
  · have h := two_mul_magnitudeOf (k := k) he
    have hp := Nat.two_pow_pos e
    rw [inBand_of_pos he]
    constructor <;> nlinarith

/-- A magnitude and the one its band decodes to differ by at most half a step; by at most 1 in segment 0. -/
theorem InBand.near {e k m : Nat} (h : InBand e k m) :
    2 * ((magnitudeOf e k : Int) - m).natAbs ≤ if e = 0 then 2 else 2 ^ e := by
  rcases Nat.eq_zero_or_pos e with rfl | he
  · rw [inBand_zero] at h
    rw [magnitudeOf_zero, if_pos rfl]
    omega
  · have hmid := two_mul_magnitudeOf (k := k) he
    rw [inBand_of_pos he] at h
    rw [if_neg (Nat.pos_iff_ne_zero.1 he)]
    obtain ⟨hlo, hhi⟩ := h
    simp only [Nat.add_mul, Nat.mul_assoc] at hmid hlo hhi
    omega

/-! ### The segment and the step of a magnitude (R23) -/

theorem segmentOf_of_lt {m : Nat} (h : m < 32) : segmentOf m = 0 := by simp [segmentOf, h]

theorem segmentOf_eq {e m : Nat} (he : 1 ≤ e) (he7 : e ≤ 7) (hlo : 2 ^ (e + 4) ≤ m) (hhi : m < 2 ^ (e + 5)) :
    segmentOf m = e := by
  unfold segmentOf
  interval_cases e <;> norm_num at hlo hhi <;> split_ifs <;> omega

/-- Every magnitude of the linear range lies below 32 or in one of the segments 1 to 7. -/
theorem exists_segment {m : Nat} (hm : m ≤ 4095) :
    m < 32 ∨ ∃ e, 1 ≤ e ∧ e ≤ 7 ∧ 2 ^ (e + 4) ≤ m ∧ m < 2 ^ (e + 5) := by
  rcases Nat.lt_or_ge m 32 with h | h
  · exact .inl h
  · have h5 : 5 ≤ m.log2 := (Nat.le_log2 (by omega)).2 h
    have h12 : m.log2 < 12 := (Nat.log2_lt (by omega)).2 (by omega)
    refine .inr ⟨m.log2 - 4, by omega, by omega, ?_, ?_⟩
    · rw [Nat.sub_add_cancel (by omega)]; exact Nat.log2_self_le (by omega)
    · rw [show m.log2 - 4 + 5 = m.log2 + 1 by omega]; exact Nat.lt_log2_self

/-- The fields of R23 are those of the band, and a band has no other fields. -/
theorem fields_of_inBand {e k m : Nat} (he : e < 8) (hk : k < 16) (h : InBand e k m) :
    segmentOf m = e ∧ stepOf m = k := by
  rcases Nat.eq_zero_or_pos e with rfl | hpos
  · rw [inBand_zero] at h
    have hm : m < 32 := by omega
    exact ⟨segmentOf_of_lt hm, by rw [stepOf, if_pos hm]; omega⟩
  · obtain ⟨hlo, hhi⟩ := (inBand_of_pos hpos).1 h
    have hp := Nat.two_pow_pos e
    have h2 : 2 ≤ 2 ^ e := Nat.le_self_pow (by omega) 2
    have hseg : segmentOf m = e := by
      refine segmentOf_eq hpos (by omega) ?_ ?_ <;> simp only [pow_add] <;> nlinarith
    have hstep : (m - 2 ^ (e + 4)) / 2 ^ e = k := by
      rw [Nat.div_eq_iff hp, pow_add]
      simp only [Nat.add_mul] at hlo hhi
      omega
    exact ⟨hseg, by rw [stepOf, if_neg (by nlinarith), hseg, hstep]⟩

theorem exists_inBand {m : Nat} (hm : m ≤ 4095) : ∃ e k, e < 8 ∧ k < 16 ∧ InBand e k m := by
  rcases exists_segment hm with h | ⟨e, he, he7, hlo, hhi⟩
  · exact ⟨0, m / 2, by omega, by omega, inBand_zero.2 (by omega)⟩
  · have hp := Nat.two_pow_pos e
    have hdm := Nat.div_add_mod m (2 ^ e)
    have hmod := Nat.mod_lt m hp
    rw [pow_add] at hlo hhi
    have hge : 16 ≤ m / 2 ^ e := (Nat.le_div_iff_mul_le hp).2 (by omega)
    have hlt : m / 2 ^ e < 32 := (Nat.div_lt_iff_lt_mul hp).2 (by omega)
    refine ⟨e, m / 2 ^ e - 16, by omega, by omega, (inBand_of_pos he).2 ?_⟩
    rw [show 16 + (m / 2 ^ e - 16) = m / 2 ^ e by omega, show 17 + (m / 2 ^ e - 16) = m / 2 ^ e + 1 by omega,
      Nat.add_mul, Nat.mul_comm (m / 2 ^ e)]
    omega

theorem encodeCode_eq_codeByte (v : Int) :
    encodeCode v = codeByte (decide (v < 0)) (segmentOf (min v.natAbs 4095)) (stepOf (min v.natAbs 4095)) := by
  simp [encodeCode, codeByte]

/-- R23 by the band. -/
theorem encodeCode_of_inBand {v : Int} {e k : Nat} (he : e < 8) (hk : k < 16) (h : InBand e k (min v.natAbs 4095)) :
    encodeCode v = codeByte (decide (v < 0)) e k := by
  obtain ⟨hseg, hstep⟩ := fields_of_inBand he hk h
  rw [encodeCode_eq_codeByte, hseg, hstep]

theorem natAbs_decodeCode_bounds (b : Byte) : 1 ≤ (decodeCode b).natAbs ∧ (decodeCode b).natAbs ≤ 4032 := by
  obtain ⟨n, e, k, he, hk, rfl⟩ := exists_codeByte b
  obtain ⟨hlo, hhi, -, -⟩ := magnitudeOf_bounds he hk
  rw [decodeCode_codeByte n he hk, natAbs_signed]
  exact ⟨hlo, hhi⟩

/-- R24: encoding a decoded byte gives the byte back. -/
theorem encodeCode_decodeCode (b : Byte) : encodeCode (decodeCode b) = b := by
  obtain ⟨n, e, k, he, hk, rfl⟩ := exists_codeByte b
  obtain ⟨hlo, hhi, -, -⟩ := magnitudeOf_bounds he hk
  have hsat : min (signed n (magnitudeOf e k)).natAbs 4095 = magnitudeOf e k := by rw [natAbs_signed]; omega
  have hband : InBand e k (min (signed n (magnitudeOf e k)).natAbs 4095) := by rw [hsat]; exact inBand_magnitudeOf e k
  rw [decodeCode_codeByte n he hk, encodeCode_of_inBand he hk hband]
  simp [signed_neg_iff hlo]

theorem InBand.le {e k m : Nat} (he : e < 8) (hk : k < 16) (h : InBand e k m) : m ≤ 4095 := by
  rcases Nat.eq_zero_or_pos e with rfl | hpos
  · rw [inBand_zero] at h; omega
  · have hlt : m < (17 + k) * 2 ^ e := ((inBand_of_pos hpos).1 h).2
    have htop : (17 + k) * 2 ^ e ≤ 32 * 2 ^ 7 := Nat.mul_le_mul (by omega) (Nat.pow_le_pow_right (by omega) (by omega))
    omega

/-- A magnitude in the band of a byte with sign 0 encodes to that byte. -/
theorem InBand.encodeCode_natCast {e k m : Nat} (he : e < 8) (hk : k < 16) (h : InBand e k m) :
    encodeCode m = BitVec.ofNat 8 (16 * e + k) := by
  have hband : InBand e k (min (m : Int).natAbs 4095) := by
    rwa [Int.natAbs_natCast, Nat.min_eq_left (h.le he hk)]
  have hsign : ¬ (m : Int) < 0 := by omega
  rw [encodeCode_of_inBand he hk hband]
  simp [codeByte, hsign]

theorem decodeCode_ofNat {e k : Nat} (he : e < 8) (hk : k < 16) :
    decodeCode (BitVec.ofNat 8 (16 * e + k)) = magnitudeOf e k := by
  simpa [codeByte, signed] using decodeCode_codeByte false he hk

theorem decodeCode_ofNat_sign {sign e k : Nat} (hs : sign < 2) (he : e < 8) (hk : k < 16) :
    decodeCode (BitVec.ofNat 8 (128 * sign + 16 * e + k)) = (if sign = 0 then 1 else -1) * (magnitudeOf e k : Int) := by
  interval_cases sign
  · simpa using decodeCode_ofNat he hk
  · simpa [codeByte, signed] using decodeCode_codeByte true he hk

/-- The smallest and the largest magnitude, and the bytes that have them (R22). -/
theorem natAbs_decodeCode_extremes (b : Byte) :
    ((decodeCode b).natAbs = 1 ↔ b = 0x00 ∨ b = 0x80) ∧ ((decodeCode b).natAbs = 4032 ↔ b = 0x7F ∨ b = 0xFF) := by
  obtain ⟨n, e, k, he, hk, rfl⟩ := exists_codeByte b
  obtain ⟨-, -, hone, htop⟩ := magnitudeOf_bounds he hk
  obtain ⟨hfirst, hlast⟩ := extreme_fields_iff (n := n) he hk
  rw [decodeCode_codeByte n he hk, natAbs_signed]
  exact ⟨hone.trans hfirst, htop.trans hlast⟩

/-- Settles O17, by the fields of a byte and the bands of the magnitudes. -/
theorem codeBytesDecodeAndEncode : Obligations.CodeBytesDecodeAndEncode := by
  refine ⟨fun sign hs e he k hk => decodeCode_ofNat_sign hs he hk, natAbs_decodeCode_bounds,
    fun b => (natAbs_decodeCode_extremes b).1, fun b => (natAbs_decodeCode_extremes b).2, ?_, ?_, fun v => ⟨?_, ?_⟩⟩
  · intro e k m he he7 hk hlo hhi
    have hband : InBand e k m := (inBand_of_pos he).2 ⟨hlo, hhi⟩
    refine ⟨hband.encodeCode_natCast (by omega) hk, ?_⟩
    rw [decodeCode_ofNat (by omega) hk]
    exact_mod_cast two_mul_magnitudeOf he
  · intro k m hk hm
    have hband : InBand 0 k m := inBand_zero.2 (by omega)
    have henc := hband.encodeCode_natCast (by omega) hk
    have hdec := decodeCode_ofNat (e := 0) (by omega) hk
    rw [Nat.mul_zero, Nat.zero_add] at henc hdec
    exact ⟨henc, by rw [hdec, magnitudeOf_zero]; push_cast; rfl⟩
  · intro hm
    rw [encodeCode_eq_codeByte, segmentOf_of_lt hm, stepOf, if_pos hm]
    simp [codeByte]
  · intro e he he7 hlo hhi
    have h32 : 2 ^ 5 ≤ 2 ^ (e + 4) := Nat.pow_le_pow_right (by omega) (by omega)
    rw [encodeCode_eq_codeByte, stepOf, if_neg (by omega), segmentOf_eq he he7 hlo hhi]
    simp [codeByte]

/-! ### Recoding (R24) -/

theorem saturate_eq_clip (v : Int) : saturate v = max (-4095) (min 4095 v) := by
  unfold saturate
  split_ifs <;> omega

theorem saturate_of_le {v : Int} (h : v.natAbs ≤ 4095) : saturate v = v := by
  rw [saturate_eq_clip]
  omega

theorem saturate_decodeCode (b : Byte) : saturate (decodeCode b) = decodeCode b :=
  saturate_of_le (by have := natAbs_decodeCode_bounds b; omega)

theorem roundDiv_eq_ediv (x : Int) {d : Int} (hd : 0 < d) : roundDiv x d = (x + d / 2) / d :=
  Int.fdiv_eq_ediv_of_nonneg _ hd.le

theorem roundDiv_mul (x : Int) {d : Int} (hd : 1 < d) : roundDiv (x * d) d = x := by
  rw [roundDiv_eq_ediv _ (by omega), Int.add_comm, Int.add_mul_ediv_right _ _ (by omega),
    Int.ediv_eq_zero_of_lt (by omega) (by omega), Int.zero_add]

theorem overlayByte_zero (b : Byte) : overlayByte b 0 0 = b := by
  have hpad : paddedSample b 0 = decodeCode b := roundDiv_mul (decodeCode b) (by omega)
  rw [overlayByte, hpad, Int.add_zero, saturate_decodeCode, encodeCode_decodeCode]

theorem signed_sub_natAbs (n : Bool) (a b : Nat) : (signed n a - signed n b).natAbs = ((a : Int) - b).natAbs := by
  cases n <;> simp only [signed] <;> grind

/-- The size of a step in the segment of a magnitude, with 2 in segment 0 (R24). -/
theorem InBand.step_size {e k m : Nat} (he : e < 8) (hk : k < 16) (h : InBand e k m) :
    (if e = 0 then 2 else 2 ^ e) = if m < 64 then 2 else 2 ^ (m.log2 - 4) := by
  have hseg : segmentOf m = e := (fields_of_inBand he hk h).1
  rcases exists_segment (h.le he hk) with hm | ⟨e', he', he7, hlo, hhi⟩
  · rw [segmentOf_of_lt hm] at hseg
    rw [if_pos hseg.symm, if_pos (by omega)]
  · obtain rfl : e' = e := (segmentOf_eq he' he7 hlo hhi).symm.trans hseg
    have hlog : m.log2 = e' + 4 := (Nat.log2_eq_iff (by have := Nat.two_pow_pos (e' + 4); omega)).2 ⟨hlo, hhi⟩
    rw [if_neg (by omega), hlog, Nat.add_sub_cancel]
    split
    · obtain rfl : e' = 1 := by
        by_contra hne
        have : 2 ^ 6 ≤ 2 ^ (e' + 4) := Nat.pow_le_pow_right (by omega) (by omega)
        omega
      rfl
    · rfl

theorem decodeCode_encodeCode_near {v : Int} (hv : v.natAbs ≤ 4095) :
    2 * (decodeCode (encodeCode v) - v).natAbs ≤ if v.natAbs < 64 then 2 else 2 ^ (v.natAbs.log2 - 4) := by
  obtain ⟨e, k, he, hk, hband⟩ := exists_inBand hv
  rw [encodeCode_of_inBand he hk (by rwa [Nat.min_eq_left hv]), decodeCode_codeByte _ he hk, ← hband.step_size he hk]
  calc 2 * (signed (decide (v < 0)) (magnitudeOf e k) - v).natAbs
      = 2 * ((magnitudeOf e k : Int) - v.natAbs).natAbs := by
        rw [← signed_sub_natAbs (decide (v < 0)), signed_decide_natAbs]
    _ ≤ if e = 0 then 2 else 2 ^ e := hband.near

/-- Settles O18: the decoded magnitude of a byte lies in the byte's own band, within half a step of the band's other
magnitudes. -/
theorem codeBytesSurviveRecoding : Obligations.CodeBytesSurviveRecoding :=
  ⟨encodeCode_decodeCode, overlayByte_zero, fun v _ _ =>
    ⟨decodeCode_encodeCode_near (by omega), encodeCode_decodeCode (encodeCode v)⟩⟩

/-! ### The rounded quotient (R25) -/

theorem roundDiv_bounds (x : Int) {d : Int} (hd : 0 < d) (heven : d % 2 = 0) :
    2 * x - d < 2 * d * roundDiv x d ∧ 2 * d * roundDiv x d ≤ 2 * x + d := by
  rw [roundDiv_eq_ediv x hd]
  have hdm := Int.mul_ediv_add_emod (x + d / 2) d
  have hlo := Int.emod_nonneg (x + d / 2) hd.ne'
  have hhi := Int.emod_lt_of_pos (x + d / 2) hd
  rw [Int.mul_assoc]
  omega

/-- The bounds of R25 determine the rounded quotient. -/
theorem eq_roundDiv {x d q : Int} (hd : 0 < d) (heven : d % 2 = 0) (hlo : 2 * x - d < 2 * d * q)
    (hhi : 2 * d * q ≤ 2 * x + d) : q = roundDiv x d := by
  obtain ⟨hlo', hhi'⟩ := roundDiv_bounds x hd heven
  have hle : q - roundDiv x d < 1 :=
    lt_of_mul_lt_mul_left (by linarith : 2 * d * (q - roundDiv x d) < 2 * d * 1) (by omega)
  have hge : -1 < q - roundDiv x d :=
    lt_of_mul_lt_mul_left (by linarith : 2 * d * -1 < 2 * d * (q - roundDiv x d)) (by omega)
  omega

theorem roundDiv_neg_of_not_half {x d : Int} (hd : 0 < d) (heven : d % 2 = 0) (h : (2 * x - d) % (2 * d) ≠ 0) :
    roundDiv (-x) d = -roundDiv x d := by
  obtain ⟨hlo, hhi⟩ := roundDiv_bounds x hd heven
  have hne : 2 * d * roundDiv x d ≠ 2 * x + d := fun heq =>
    h (Int.emod_eq_zero_of_dvd ⟨roundDiv x d - 1, by linarith⟩)
  have hlt := lt_of_le_of_ne hhi hne
  exact (eq_roundDiv hd heven (by linarith) (by linarith)).symm

theorem roundDiv_neg_of_half {x d : Int} (hd : 0 < d) (heven : d % 2 = 0) (h : (2 * x - d) % (2 * d) = 0) :
    roundDiv (-x) d = -roundDiv x d + 1 := by
  obtain ⟨c, hc⟩ := Int.dvd_of_emod_eq_zero h
  have hpos : roundDiv x d = c + 1 := (eq_roundDiv hd heven (by linarith) (by linarith)).symm
  have hneg : roundDiv (-x) d = -c := (eq_roundDiv hd heven (by linarith) (by linarith)).symm
  omega

/-! ### The samples (R20, R28, R30) -/

theorem Oscillator.value_eq (x : Oscillator) : x.value = (sine (x.phase / 64) * x.amp + 16384) / 32768 :=
  roundDiv_eq_ediv _ (by omega)

theorem phraseSample_eq (b : Byte) (trim : Nat) :
    phraseSample b trim = max (-4095) (min 4095 ((decodeCode b * trim + 64) / 128)) := by
  rw [phraseSample, roundDiv_eq_ediv _ (by omega), saturate_eq_clip]
  rfl

theorem phraseSample_full (b : Byte) : phraseSample b 128 = decodeCode b := by
  rw [phraseSample, Nat.cast_ofNat, roundDiv_mul _ (by omega), saturate_decodeCode]

theorem phraseSample_zero (b : Byte) : phraseSample b 0 = 0 := by
  rw [phraseSample_eq, Nat.cast_zero, Int.mul_zero]
  decide

/-! ### The sine table (R26) -/

theorem sine_512_sub_of_le_256 {i : Nat} (hi : i ≤ 256) : sine (512 - i) = sine i := by
  rcases Nat.lt_or_ge i 256 with h | h
  · rw [sine, if_neg (by omega), if_pos (by omega), sine, if_pos hi, Nat.sub_sub_self (by omega)]
  · obtain rfl : i = 256 := by omega
    rfl

theorem sine_512_add {i : Nat} (hi : i ≤ 512) : sine (512 + i) = -sine i := by
  rcases Nat.eq_zero_or_pos i with rfl | hpos
  · rfl
  · rw [sine, if_neg (by omega), if_neg (by omega), sine]
    rcases Nat.lt_or_ge 256 i with h | h
    · rw [if_neg (by omega), if_neg (by omega), if_pos hi, show 1024 - (512 + i) = 512 - i by omega]
    · rw [if_pos (by omega), if_pos h, Nat.add_sub_cancel_left]

theorem sine_512_sub {i : Nat} (hi : i ≤ 512) : sine (512 - i) = sine i := by
  rcases Nat.le_total i 256 with h | h
  · exact sine_512_sub_of_le_256 h
  · rw [← sine_512_sub_of_le_256 (i := 512 - i) (by omega), Nat.sub_sub_self hi]

theorem sine_1024_sub {i : Nat} (hi : i ≤ 1024) : sine (1024 - i) = -sine i := by
  rcases Nat.le_total i 512 with h | h
  · rw [show 1024 - i = 512 + (512 - i) by omega, sine_512_add (by omega), sine_512_sub h]
  · obtain ⟨j, rfl⟩ := Nat.exists_eq_add_of_le h
    rw [sine_512_add (by omega), show 1024 - (512 + j) = 512 - j by omega, sine_512_sub (by omega), neg_neg]

/-- The Taylor polynomial of the sine of degree 13. -/
def sinTaylor (x : ℚ) : ℚ :=
  x * (1 - x ^ 2 / 6 * (1 - x ^ 2 / 20 * (1 - x ^ 2 / 42 * (1 - x ^ 2 / 72 * (1 - x ^ 2 / 110 * (1 - x ^ 2 / 156))))))

/-- The angle 2π i / 1024 of a table entry with π to ten decimal places. -/
def angleNear (i : Nat) : ℚ := 2 * 3.1415926536 * i / 1024

open Complex in
/-- The exponential series of x i, cut before degree 14, has the sine's Taylor polynomial as its imaginary part. -/
theorem exp_series_im (x : ℚ) : (∑ m ∈ Finset.range 14, ((x : ℝ) * I) ^ m / m.factorial).im = sinTaylor x := by
  simp [Finset.sum_range_succ, Nat.factorial, pow_succ, sinTaylor]
  ring

open Complex in
/-- Mathlib's remainder of the exponential series, over the first quarter turn. -/
theorem sin_near_sinTaylor {x : ℚ} (h0 : 0 ≤ x) (hx : x ≤ 1571 / 1000) :
    |Real.sin x - sinTaylor x| ≤ 2 / 10 ^ 8 := by
  have h0' : (0 : ℝ) ≤ x := by exact_mod_cast h0
  have hx' : (x : ℝ) ≤ 1571 / 1000 := by simpa using (Rat.cast_le (K := ℝ)).2 hx
  have hnorm : ‖(x : ℝ) * I‖ = x := by rw [norm_mul, norm_I, norm_real, Real.norm_of_nonneg h0', mul_one]
  have h := Complex.exp_bound' (x := (x : ℝ) * I) (n := 14) (by rw [hnorm]; norm_num; linarith)
  rw [hnorm] at h
  calc |Real.sin x - sinTaylor x|
      = |(Complex.exp ((x : ℝ) * I) - ∑ m ∈ Finset.range 14, ((x : ℝ) * I) ^ m / m.factorial).im| := by
        rw [sub_im, exp_ofReal_mul_I_im, exp_series_im]
    _ ≤ (x : ℝ) ^ 14 / Nat.factorial 14 * 2 := (abs_im_le_norm _).trans h
    _ ≤ (1571 / 1000) ^ 14 / Nat.factorial 14 * 2 := by gcongr
    _ ≤ 2 / 10 ^ 8 := by norm_num [Nat.factorial]

/-- The table's 257 stored entries against the polynomial, in rational arithmetic. The entry nearest to an exact half
(129) is 0.4988 off; 0.499 leaves room for the errors of the polynomial and of the angle. -/
theorem sine_near_sinTaylor : ∀ i ≤ 256, |(sine i : ℚ) - 32767 * sinTaylor (angleNear i)| ≤ 499 / 1000 := by
  decide +kernel

theorem sin_near_angleNear {i : Nat} (hi : i ≤ 256) :
    |Real.sin (2 * Real.pi * i / 1024) - Real.sin (angleNear i)| ≤ 1 / 10 ^ 10 := by
  have hlo := Real.pi_gt_d20
  have hhi := Real.pi_lt_d20
  have hi' : (i : ℝ) ≤ 256 := by exact_mod_cast hi
  calc |Real.sin (2 * Real.pi * i / 1024) - Real.sin (angleNear i)|
      ≤ |2 * Real.pi * i / 1024 - angleNear i| := Real.abs_sin_sub_sin_le _ _
    _ = |Real.pi - 3.1415926536| * (i / 512) := by
        rw [← abs_of_nonneg (by positivity : (0 : ℝ) ≤ i / 512), ← abs_mul, angleNear]
        push_cast
        ring_nf
    _ ≤ 1 / 10 ^ 10 * 1 := by
        gcongr
        · rw [abs_le]; constructor <;> linarith
        · linarith
    _ = 1 / 10 ^ 10 := mul_one _

/-- R26 for entry `i`: it is the rounded value of the sine. -/
def RoundsSine (i : Nat) : Prop := |(sine i : ℝ) - 32767 * Real.sin (2 * Real.pi * i / 1024)| < 1 / 2

theorem roundsSine_quarter {i : Nat} (hi : i ≤ 256) : RoundsSine i := by
  have hi' : (i : ℚ) ≤ 256 := by exact_mod_cast hi
  have htable : |(sine i : ℝ) - 32767 * sinTaylor (angleNear i)| ≤ 499 / 1000 := by
    simpa using (Rat.cast_le (K := ℝ)).2 (sine_near_sinTaylor i hi)
  have htaylor := sin_near_sinTaylor (x := angleNear i) (by unfold angleNear; positivity)
    (by unfold angleNear; linarith)
  have hangle := sin_near_angleNear hi
  rw [abs_le] at htable htaylor hangle
  rw [RoundsSine, abs_lt]
  constructor <;> linarith

theorem roundsSine_half {i : Nat} (hi : i ≤ 512) : RoundsSine i := by
  rcases Nat.le_total i 256 with h | h
  · exact roundsSine_quarter h
  · have hq := roundsSine_quarter (i := 512 - i) (by omega)
    have hangle : 2 * Real.pi * (512 - i : Nat) / 1024 = Real.pi - 2 * Real.pi * i / 1024 := by
      rw [Nat.cast_sub hi]; push_cast; ring
    rwa [RoundsSine, sine_512_sub hi, hangle, Real.sin_pi_sub] at hq

theorem roundsSine {i : Nat} (hi : i < 1024) : RoundsSine i := by
  rcases Nat.le_total i 512 with h | h
  · exact roundsSine_half h
  · obtain ⟨j, rfl⟩ := Nat.exists_eq_add_of_le h
    have hj := roundsSine_half (i := j) (by omega)
    have hangle : 2 * Real.pi * (512 + j : Nat) / 1024 = 2 * Real.pi * j / 1024 + Real.pi := by
      push_cast; ring
    rw [RoundsSine, sine_512_add (by omega), hangle, Real.sin_add_pi, Int.cast_neg, mul_neg, ← neg_sub', abs_neg]
    exact hj

theorem sine_bounds {i : Nat} (hi : i < 1024) : -32767 ≤ sine i ∧ sine i ≤ 32767 := by
  have h := roundsSine hi
  rw [RoundsSine, abs_lt] at h
  have hlo := Real.neg_one_le_sin (2 * Real.pi * i / 1024)
  have hhi := Real.sin_le_one (2 * Real.pi * i / 1024)
  have h1 : (-32768 : ℝ) < sine i := by linarith
  have h2 : (sine i : ℝ) < 32768 := by linarith
  norm_cast at h1 h2
  omega

theorem Oscillator.natAbs_value_le {x : Oscillator} (hp : x.phase < 65536) (ha : x.amp ≤ 4095) :
    ((sine (x.phase / 64) * x.amp + 16384) / 32768).natAbs ≤ 4095 := by
  obtain ⟨hlo, hhi⟩ := sine_bounds (i := x.phase / 64) (by omega)
  have hproduct : (sine (x.phase / 64) * x.amp).natAbs ≤ 32767 * 4095 := by
    rw [Int.natAbs_mul, Int.natAbs_natCast]
    exact Nat.mul_le_mul (by omega) ha
  omega

/-- Settles O19: the quotient by the bounds that determine it, the table by Taylor's polynomial in the first quarter and
the symmetries of the sine beyond it, the samples by the quotient and saturation. -/
theorem roundingAndSamples : Obligations.RoundingAndSamples := by
  refine ⟨fun x d hd heven => ⟨(roundDiv_bounds x hd heven).1, (roundDiv_bounds x hd heven).2,
      roundDiv_neg_of_not_half hd heven, roundDiv_neg_of_half hd heven⟩,
    ⟨fun i hi => roundsSine hi, fun i hi => sine_bounds hi, rfl, rfl, rfl, rfl, rfl, rfl,
      fun i _ hi => sine_1024_sub (by omega), fun i hi => sine_512_add (by omega)⟩,
    saturate_eq_clip, fun x => Oscillator.natAbs_value_le, fun e => ?_, phraseSample_eq,
    fun b => ⟨phraseSample_full b, phraseSample_zero b⟩⟩
  rw [ToneEntry.sample, saturate_eq_clip, Oscillator.value_eq, Oscillator.value_eq]

end Sys2Proof.Machine

/-! PROOF. Rules about the state's operations: what a context or head reads after an update, what the wait queue's change
makes of the urgent queue, and what an equal backdrop says field by field. -/

namespace Sys2Proof.Machine

/-! ### Contexts -/

theorem State.ctx_eq (s : State) (k : Nat) : s.ctx k = (s.seq.contexts[k]?).getD none := by
  simp [State.ctx, List.getD_eq_getElem?_getD]

theorem State.getElem?_of_ctx {s : State} {k : Nat} {c : Ctx} (h : s.ctx k = some c) :
    s.seq.contexts[k]? = some (some c) := by
  rw [State.ctx_eq] at h
  cases hk : s.seq.contexts[k]? with
  | none => rw [hk] at h; cases h
  | some o => rw [hk] at h; exact congrArg some h

theorem State.lt_of_ctx {s : State} {k : Nat} {c : Ctx} (h : s.ctx k = some c) : k < s.seq.contexts.length :=
  (List.getElem?_eq_some_iff.1 (State.getElem?_of_ctx h)).1

theorem State.ctx_congr {s t : State} (h : t.seq.contexts = s.seq.contexts) (k : Nat) : t.ctx k = s.ctx k := by
  simp only [State.ctx, h]

theorem State.ctx_setCtx_ne {s : State} {k j : Nat} {c : Option Ctx} (h : j ≠ k) : (s.setCtx k c).ctx j = s.ctx j := by
  simp [State.ctx_eq, Ne.symm h]

theorem State.ctx_setCtx_same {s : State} {k : Nat} {c : Option Ctx} (h : k < s.seq.contexts.length) :
    (s.setCtx k c).ctx k = c := by
  simp [State.ctx_eq, h]

@[simp] theorem State.ctx_setCtx_none (s : State) (k j : Nat) :
    (s.setCtx k none).ctx j = if j = k then none else s.ctx j := by
  split
  · next h =>
    subst h
    simp only [State.ctx_eq, State.setCtx_contexts, List.getElem?_set, if_true]
    split <;> rfl
  · next h => exact State.ctx_setCtx_ne h

/-- A context bound in a slot's place is read there, if anything is. -/
theorem State.ctx_setCtx_some {s : State} {k : Nat} {c x : Ctx} (h : (s.setCtx k (some c)).ctx k = some x) : x = c := by
  have hl := State.lt_of_ctx h
  rw [State.setCtx_contexts, List.length_set] at hl
  rw [State.ctx_setCtx_same hl] at h
  cases h; rfl

@[simp] theorem State.ctx_modifyCtx (s : State) (k : Nat) (f : Ctx → Ctx) (j : Nat) :
    (s.modifyCtx k f).ctx j = if j = k then (s.ctx k).map f else s.ctx j := by
  simp only [State.ctx_eq, State.modifyCtx_contexts, List.getElem?_modify]
  by_cases h : j = k
  · subst h; cases s.seq.contexts[j]? <;> simp
  · simp only [if_neg h, if_neg (Ne.symm h)]; cases s.seq.contexts[j]? <;> rfl

theorem State.modifyCtxs_cons (s : State) (k : Nat) (l : List Nat) (f : Ctx → Ctx) :
    s.modifyCtxs (k :: l) f = (s.modifyCtx k f).modifyCtxs l f := rfl

theorem State.ctx_modifyCtxs_of_notMem {f : Ctx → Ctx} {k : Nat} {l : List Nat} {s : State} (h : k ∉ l) :
    (s.modifyCtxs l f).ctx k = s.ctx k := by
  induction l generalizing s with
  | nil => rfl
  | cons j l ih =>
    obtain ⟨hj, hl⟩ := not_or.1 (mt List.mem_cons.2 h)
    rw [State.modifyCtxs_cons, ih hl, State.ctx_modifyCtx, if_neg hj]

theorem State.ctx_modifyCtxs_of_mem {f : Ctx → Ctx} {k : Nat} {l : List Nat} {s : State} (hn : l.Nodup) (h : k ∈ l) :
    (s.modifyCtxs l f).ctx k = (s.ctx k).map f := by
  induction l generalizing s with
  | nil => cases h
  | cons j l ih =>
    obtain ⟨hj, hn⟩ := List.nodup_cons.1 hn
    rcases List.mem_cons.1 h with rfl | h
    · rw [State.modifyCtxs_cons, State.ctx_modifyCtxs_of_notMem hj, State.ctx_modifyCtx, if_pos rfl]
    · have hne : k ≠ j := fun e => hj (e ▸ h)
      rw [State.modifyCtxs_cons, ih hn h, State.ctx_modifyCtx, if_neg hne]

/-! ### Heads -/

theorem State.head_eq (s : State) (h : Nat) : s.head h = (s.pool.heads[h]?).getD .free := by
  simp [State.head, List.getD_eq_getElem?_getD]

theorem State.head_congr {s t : State} (h : t.pool.heads = s.pool.heads) (g : Nat) : t.head g = s.head g := by
  simp only [State.head, h]

theorem State.lt_of_headRun {s : State} {h : Nat} {r : HeadRun} (hr : s.headRun h = some r) :
    h < s.pool.heads.length := by
  by_contra hge
  rw [State.headRun, State.head_eq, List.getElem?_eq_none (by omega)] at hr
  cases hr

theorem State.head_modifyHeads (s : State) (h : Nat) (f : Head → Head) (g : Nat) :
    (s.setHeads (s.pool.heads.modify h f)).head g =
      if g = h ∧ h < s.pool.heads.length then f (s.head h) else s.head g := by
  simp only [State.head_eq, State.setHeads_heads, List.getElem?_modify]
  by_cases hg : g = h
  · subst hg
    by_cases hl : g < s.pool.heads.length <;> simp [hl]
  · simp only [hg, false_and, if_false, if_neg (Ne.symm hg)]
    cases s.pool.heads[g]? <;> rfl

theorem State.head_setHeadRun (s : State) (h : Nat) (r : Option HeadRun) (g : Nat) :
    (s.setHeadRun h r).head g =
      if g = h ∧ h < s.pool.heads.length then { run := r, sample := (s.head h).sample } else s.head g :=
  s.head_modifyHeads h _ g

theorem State.head_setHeadRun_ne {s : State} {h g : Nat} {r : Option HeadRun} (hg : g ≠ h) :
    (s.setHeadRun h r).head g = s.head g := by
  rw [State.head_setHeadRun, if_neg fun hh => hg hh.1]

theorem State.headRun_setHeadRun_same {s : State} {h : Nat} {r : Option HeadRun} (hl : h < s.pool.heads.length) :
    (s.setHeadRun h r).headRun h = r := by
  rw [State.headRun, State.head_setHeadRun, if_pos ⟨rfl, hl⟩]

@[simp] theorem State.headRun_setHeadRun_none (s : State) (h : Nat) : (s.setHeadRun h none).headRun h = none := by
  rw [State.headRun, State.head_setHeadRun]
  split
  · rfl
  · next hl =>
    rw [State.head_eq, List.getElem?_eq_none (by omega)]
    rfl

/-- Replacing what a head in the pool holds, as a replacement in the list of heads. -/
theorem State.setHeadRun_eq_set {s : State} {h : Nat} {q : HeadRun} (hq : s.headRun h = some q) (r : Option HeadRun) :
    s.setHeadRun h r = s.setHeads (s.pool.heads.set h { run := r, sample := (s.head h).sample }) := by
  have hl := State.lt_of_headRun hq
  simp only [State.setHeadRun, List.modify_eq_set_getElem?, State.head_eq]
  rw [List.getElem?_eq_getElem hl]
  rfl

/-! ### The Report Sender's queues -/

/-- The sender after an ordinary notice has reached it (R155). -/
def ReportSender.note (r : ReportSender) (n : Notice) : ReportSender :=
  if r.ordinary.length < 64 then { r with ordinary := r.ordinary ++ [n] }
  else { r with drops := min 255 (r.drops + 1) }

theorem State.queueOrdinary_eq (s : State) (n : Notice) : s.queueOrdinary n = { s with sender := s.sender.note n } := by
  simp only [State.queueOrdinary, ReportSender.note]
  split <;> rfl

theorem State.queueAll_eq (s : State) (ns : List Notice) :
    s.queueAll ns = { s with sender := ns.foldl ReportSender.note s.sender } := by
  unfold State.queueAll
  induction ns generalizing s with
  | nil => rfl
  | cons n ns ih => rw [List.foldl_cons, ih, State.queueOrdinary_eq]; rfl

theorem State.queueAll_append (s : State) (ms ns : List Notice) : s.queueAll (ms ++ ns) = (s.queueAll ms).queueAll ns :=
  List.foldl_append ..

@[simp] theorem ReportSender.note_urgent (r : ReportSender) (n : Notice) : (r.note n).urgent = r.urgent := by
  unfold ReportSender.note; split <;> rfl
@[simp] theorem ReportSender.note_transmission (r : ReportSender) (n : Notice) :
    (r.note n).transmission = r.transmission := by unfold ReportSender.note; split <;> rfl
@[simp] theorem ReportSender.note_hold (r : ReportSender) (n : Notice) : (r.note n).hold = r.hold := by
  unfold ReportSender.note; split <;> rfl

theorem ReportSender.foldl_note_urgent (ns : List Notice) (r : ReportSender) :
    (ns.foldl ReportSender.note r).urgent = r.urgent :=
  foldl_keeps ReportSender.urgent _ (fun r n => r.note_urgent n) ns r

/-- Ordinary queue and drop count after notices depend on ordinary queue and drop count before them. -/
theorem ReportSender.foldl_note_congr (ns : List Notice) {q r : ReportSender} (ho : q.ordinary = r.ordinary)
    (hd : q.drops = r.drops) : (ns.foldl ReportSender.note q).ordinary = (ns.foldl ReportSender.note r).ordinary ∧
      (ns.foldl ReportSender.note q).drops = (ns.foldl ReportSender.note r).drops := by
  induction ns generalizing q r with
  | nil => exact ⟨ho, hd⟩
  | cons n ns ih =>
    refine ih ?_ ?_ <;> simp only [ReportSender.note, ho, hd] <;> split <;> rfl

@[simp] theorem State.queueOrdinary_rx (s : State) (n : Notice) : (s.queueOrdinary n).rx = s.rx := by
  rw [State.queueOrdinary_eq]
@[simp] theorem State.queueOrdinary_seq (s : State) (n : Notice) : (s.queueOrdinary n).seq = s.seq := by
  rw [State.queueOrdinary_eq]
@[simp] theorem State.queueOrdinary_su (s : State) (n : Notice) : (s.queueOrdinary n).su = s.su := by
  rw [State.queueOrdinary_eq]
@[simp] theorem State.queueOrdinary_pool (s : State) (n : Notice) : (s.queueOrdinary n).pool = s.pool := by
  rw [State.queueOrdinary_eq]
@[simp] theorem State.queueOrdinary_caps (s : State) (n : Notice) : (s.queueOrdinary n).caps = s.caps := by
  rw [State.queueOrdinary_eq]
@[simp] theorem State.queueOrdinary_orders (s : State) (n : Notice) : (s.queueOrdinary n).orders = s.orders := by
  rw [State.queueOrdinary_eq]
@[simp] theorem State.queueOrdinary_sender (s : State) (n : Notice) : (s.queueOrdinary n).sender = s.sender.note n := by
  rw [State.queueOrdinary_eq]

@[simp] theorem State.queueAll_seq (s : State) (ns : List Notice) : (s.queueAll ns).seq = s.seq := by
  rw [State.queueAll_eq]
@[simp] theorem State.queueAll_pool (s : State) (ns : List Notice) : (s.queueAll ns).pool = s.pool := by
  rw [State.queueAll_eq]
@[simp] theorem State.queueAll_caps (s : State) (ns : List Notice) : (s.queueAll ns).caps = s.caps := by
  rw [State.queueAll_eq]
@[simp] theorem State.queueAll_sender (s : State) (ns : List Notice) :
    (s.queueAll ns).sender = ns.foldl ReportSender.note s.sender := by
  rw [State.queueAll_eq]

/-! ### The wait queue and the SHORTAGE notice -/

/-- The urgent queue after the wait queue has become non-empty (`begins`) or empty (R125). -/
def shortageNoted (urgent : List Notice) (begins : Bool) : List Notice :=
  let opposite : Notice := if begins then .shortageEnd else .shortageBegin
  if urgent.contains opposite then urgent.filter (· != opposite)
  else urgent ++ [if begins then .shortageBegin else .shortageEnd]

/-- The urgent queue after the wait queue has changed from `old` to `new` (R125). -/
def queueNews (urgent : List Notice) (old new : List Waiter) : List Notice :=
  match old, new with
  | [], _ :: _ => shortageNoted urgent true
  | _ :: _, [] => shortageNoted urgent false
  | [], [] => urgent
  | _ :: _, _ :: _ => urgent

theorem State.noteShortage_eq (s : State) (begins : Bool) :
    s.noteShortage begins = s.setUrgent (shortageNoted s.sender.urgent begins) := by
  unfold State.noteShortage shortageNoted
  cases begins <;> exact (apply_ite s.setUrgent _ _ _).symm

theorem State.setQueue_eq (s : State) (q : List Waiter) : s.setQueue q =
    { s with pool := { s.pool with queue := q }
             sender := { s.sender with urgent := queueNews s.sender.urgent s.pool.queue q } } := by
  unfold State.setQueue queueNews
  cases s.pool.queue <;> cases q <;> simp only [State.noteShortage_eq] <;> rfl

@[simp] theorem State.setQueue_rx (s : State) (q : List Waiter) : (s.setQueue q).rx = s.rx := by rw [State.setQueue_eq]
@[simp] theorem State.setQueue_seq (s : State) (q : List Waiter) : (s.setQueue q).seq = s.seq := by
  rw [State.setQueue_eq]
@[simp] theorem State.setQueue_su (s : State) (q : List Waiter) : (s.setQueue q).su = s.su := by rw [State.setQueue_eq]
@[simp] theorem State.setQueue_caps (s : State) (q : List Waiter) : (s.setQueue q).caps = s.caps := by
  rw [State.setQueue_eq]
@[simp] theorem State.setQueue_pool (s : State) (q : List Waiter) :
    (s.setQueue q).pool = { s.pool with queue := q } := by rw [State.setQueue_eq]
@[simp] theorem State.setQueue_sender (s : State) (q : List Waiter) :
    (s.setQueue q).sender = { s.sender with urgent := queueNews s.sender.urgent s.pool.queue q } := by
  rw [State.setQueue_eq]

theorem queueNews_of_ne {u : List Notice} {old new : List Waiter} (ho : old ≠ []) (hn : new ≠ []) :
    queueNews u old new = u := by
  cases old <;> cases new <;> first | contradiction | rfl

theorem queueNews_empties {u : List Notice} {old : List Waiter} (ho : old ≠ []) :
    queueNews u old [] = shortageNoted u false := by
  cases old <;> first | contradiction | rfl

theorem queueNews_begins {u : List Notice} {new : List Waiter} (hn : new ≠ []) :
    queueNews u [] new = shortageNoted u true := by
  cases new <;> first | contradiction | rfl

@[simp] theorem queueNews_self (u : List Notice) (q : List Waiter) : queueNews u q q = u := by cases q <;> rfl

theorem shortageNoted_of_notMem {u : List Notice} {b : Bool}
    (h : (if b then .shortageEnd else .shortageBegin : Notice) ∉ u) :
    shortageNoted u b = u ++ [if b then .shortageBegin else .shortageEnd] := by
  simp [shortageNoted, h]

theorem shortageNoted_of_mem {u : List Notice} {b : Bool}
    (h : (if b then .shortageEnd else .shortageBegin : Notice) ∈ u) :
    shortageNoted u b = u.filter (· != if b then .shortageEnd else .shortageBegin) := by
  simp [shortageNoted, h]

/-- A wait queue set to what it is stays, and nothing is queued. -/
theorem State.setQueue_self {s : State} {q : List Waiter} (h : q = s.pool.queue) : s.setQueue q = s := by
  rw [State.setQueue_eq, h, queueNews_self]

/-! ### What an equal backdrop says -/

theorem State.rx_of_backdrop {s t : State} (h : t.backdrop = s.backdrop) : t.rx = s.rx :=
  (congrArg State.rx h : t.backdrop.rx = s.backdrop.rx)
theorem State.tx_of_backdrop {s t : State} (h : t.backdrop = s.backdrop) : t.tx = s.tx :=
  (congrArg State.tx h : t.backdrop.tx = s.backdrop.tx)
theorem State.slots_of_backdrop {s t : State} (h : t.backdrop = s.backdrop) : t.slots = s.slots :=
  (congrArg State.slots h : t.backdrop.slots = s.backdrop.slots)
theorem State.bank_of_backdrop {s t : State} (h : t.backdrop = s.backdrop) : t.bank = s.bank :=
  (congrArg State.bank h : t.backdrop.bank = s.backdrop.bank)
theorem State.su_of_backdrop {s t : State} (h : t.backdrop = s.backdrop) : t.su = s.su :=
  (congrArg State.su h : t.backdrop.su = s.backdrop.su)
theorem State.caps_of_backdrop {s t : State} (h : t.backdrop = s.backdrop) : t.caps = s.caps :=
  (congrArg State.caps h : t.backdrop.caps = s.backdrop.caps)
theorem State.orders_of_backdrop {s t : State} (h : t.backdrop = s.backdrop) : t.orders = s.orders :=
  (congrArg State.orders h : t.backdrop.orders = s.backdrop.orders)
theorem State.pending_of_backdrop {s t : State} (h : t.backdrop = s.backdrop) : t.pending = s.pending :=
  (congrArg State.pending h : t.backdrop.pending = s.backdrop.pending)
theorem State.templates_of_backdrop {s t : State} (h : t.backdrop = s.backdrop) : t.seq.templates = s.seq.templates :=
  (congrArg (fun u => u.seq.templates) h : t.backdrop.seq.templates = s.backdrop.seq.templates)
theorem State.transmission_of_backdrop {s t : State} (h : t.backdrop = s.backdrop) :
    t.sender.transmission = s.sender.transmission :=
  (congrArg (fun u => u.sender.transmission) h : t.backdrop.sender.transmission = s.backdrop.sender.transmission)
theorem State.hold_of_backdrop {s t : State} (h : t.backdrop = s.backdrop) : t.sender.hold = s.sender.hold :=
  (congrArg (fun u => u.sender.hold) h : t.backdrop.sender.hold = s.backdrop.sender.hold)
theorem State.sentBegin_of_backdrop {s t : State} (h : t.backdrop = s.backdrop) : t.pool.sentBegin = s.pool.sentBegin :=
  (congrArg (fun u => u.pool.sentBegin) h : t.backdrop.pool.sentBegin = s.backdrop.pool.sentBegin)
theorem State.gatherWindow_of_backdrop {s t : State} (h : t.backdrop = s.backdrop) :
    t.pool.gatherWindow = s.pool.gatherWindow :=
  (congrArg (fun u => u.pool.gatherWindow) h : t.backdrop.pool.gatherWindow = s.backdrop.pool.gatherWindow)
theorem State.lingerTime_of_backdrop {s t : State} (h : t.backdrop = s.backdrop) :
    t.pool.lingerTime = s.pool.lingerTime :=
  (congrArg (fun u => u.pool.lingerTime) h : t.backdrop.pool.lingerTime = s.backdrop.pool.lingerTime)
theorem State.waitLimit_of_backdrop {s t : State} (h : t.backdrop = s.backdrop) :
    t.pool.waitLimit = s.pool.waitLimit :=
  (congrArg (fun u => u.pool.waitLimit) h : t.backdrop.pool.waitLimit = s.backdrop.pool.waitLimit)

theorem sameBackdrop_of_backdrop {s t : State} (h : t.backdrop = s.backdrop) : sameBackdrop s t :=
  ⟨State.rx_of_backdrop h, State.tx_of_backdrop h, State.slots_of_backdrop h, State.bank_of_backdrop h,
    State.templates_of_backdrop h, State.su_of_backdrop h, State.gatherWindow_of_backdrop h,
    State.lingerTime_of_backdrop h, State.waitLimit_of_backdrop h, State.sentBegin_of_backdrop h,
    State.caps_of_backdrop h, State.orders_of_backdrop h, State.transmission_of_backdrop h, State.hold_of_backdrop h,
    State.pending_of_backdrop h⟩

/-- Whether a phrase is playable depends on the store unit and the channels. -/
theorem State.playable_congr {s t : State} (hsu : t.su = s.su) (hc : t.caps = s.caps) (p : Nat) :
    t.playable p = s.playable p := by
  simp only [State.playable, State.entry, State.heldByCapture, State.capture, State.startOf, State.window, hsu, hc]

theorem State.playable_of_backdrop {s t : State} (h : t.backdrop = s.backdrop) (p : Nat) :
    t.playable p = s.playable p := State.playable_congr (State.su_of_backdrop h) (State.caps_of_backdrop h) p

theorem State.gate_of_playable {s : State} {p : Nat} (h : s.playable p = true) : s.su.gate = .isOpen := by
  simp only [State.playable, Bool.and_eq_true, beq_iff_eq] at h
  exact h.1.2

/-! ### The commands by their meanings -/

theorem exec_timedStepEnd (slot : Nat) (s : State) :
    exec (.timedStepEnd slot) s = .next (s.dueTimedEnd slot) := rfl
theorem exec_gatherTimerExpiry (h : Nat) (s : State) :
    exec (.gatherTimerExpiry h) s = .next (s.dueGather h) := rfl
theorem exec_lingerTimerExpiry (h : Nat) (s : State) :
    exec (.lingerTimerExpiry h) s = .next (s.dueLinger h) := rfl
theorem exec_waitTimerExpiry (slot : Nat) (s : State) :
    exec (.waitTimerExpiry slot) s = .next ((s.settleEndings.dueOrder .plain).dueWait slot) := rfl
theorem exec_phraseComplete (h : Nat) (s : State) :
    exec (.phraseComplete h) s = .next (s.duePhrase h) := rfl
theorem exec_loopCyclesComplete (h : Nat) (s : State) :
    exec (.loopCyclesComplete h) s = .next (s.dueLoop h) := rfl
theorem exec_voiceTimerExpiry (c : Nat) (s : State) :
    exec (.voiceTimerExpiry c) s = .next (s.dueVoice c) := rfl
theorem exec_captureFull (c : Nat) (s : State) :
    exec (.captureFull c) s = .next (s.dueFull c) := rfl
theorem exec_captureSilence (c : Nat) (s : State) :
    exec (.captureSilence c) s = .next (s.dueSilence c) := rfl
theorem exec_reportComplete (s : State) : exec .reportComplete s = .next s.dueReport := rfl
theorem exec_checkComplete (p : Nat) (s : State) :
    exec (.checkComplete p) s = .next (s.dueCheck p) := rfl
theorem exec_laneLoss (p : Nat) (o : LossOrder) (s : State) :
    exec (.laneLoss p o) s = .next (s.dueLoss o p) := rfl
theorem exec_mismatchLaneLoss (p : Nat) (o : LossOrder) (s : State) :
    exec (.mismatchLaneLoss p o) s = .next (s.dueMismatch o p) := rfl
theorem exec_frameEvent (schedule : List Act) (s : State) :
    exec (.frameEvent schedule) s = s.dueFrame schedule := rfl
theorem exec_lanePlan (ref : Byte) (args : List Byte) (o : LossOrder) (s : State) :
    exec (.lanePlan ref args o) s = s.takeMessage (OrderCode.lanePlan :: ref :: args) (takeLanePlan ref args o) := rfl
theorem exec_setSlots (ref : Byte) (args : List Byte) (s : State) :
    exec (.setSlots ref args) s = s.takeMessage (OrderCode.setSlots :: ref :: args) (takeSetSlots ref args) := rfl
theorem exec_tone (ref : Byte) (args : List Byte) (s : State) :
    exec (.tone ref args) s = s.takeMessage (OrderCode.tone :: ref :: args) (takeTone ref args) := rfl
theorem exec_cadence (ref : Byte) (args : List Byte) (s : State) :
    exec (.cadence ref args) s = s.takeMessage (OrderCode.cadence :: ref :: args) (takeCadence ref args) := rfl
theorem exec_template (ref : Byte) (args : List Byte) (s : State) :
    exec (.template ref args) s = s.takeMessage (OrderCode.template :: ref :: args) (takeTemplate ref args) := rfl
theorem exec_play (ref : Byte) (args : List Byte) (s : State) :
    exec (.play ref args) s = s.takeMessage (OrderCode.play :: ref :: args) (takePlay ref args) := rfl
theorem exec_stop (ref : Byte) (args : List Byte) (s : State) :
    exec (.stop ref args) s = s.takeMessage (OrderCode.stop :: ref :: args) (takeStop ref args) := rfl
theorem exec_windowMap (ref : Byte) (args : List Byte) (s : State) :
    exec (.windowMap ref args) s = s.takeMessage (OrderCode.windowMap :: ref :: args) (takeWindowMap ref args) := rfl
theorem exec_phrase (ref : Byte) (args : List Byte) (s : State) :
    exec (.phrase ref args) s = s.takeMessage (OrderCode.phrase :: ref :: args) (takePhrase ref args) := rfl
theorem exec_directoryCheck (ref : Byte) (args : List Byte) (s : State) :
    exec (.directoryCheck ref args) s = s.takeMessage (OrderCode.directoryCheck :: ref :: args) (takeDirectoryCheck ref args) := rfl
theorem exec_headPlan (ref : Byte) (args : List Byte) (s : State) :
    exec (.headPlan ref args) s = s.takeMessage (OrderCode.headPlan :: ref :: args) (takeHeadPlan ref args) := rfl
theorem exec_captureStart (ref : Byte) (args : List Byte) (s : State) :
    exec (.captureStart ref args) s = s.takeMessage (OrderCode.captureStart :: ref :: args) (takeCaptureStart ref args) := rfl
theorem exec_captureStop (ref : Byte) (args : List Byte) (s : State) :
    exec (.captureStop ref args) s = s.takeMessage (OrderCode.captureStop :: ref :: args) (takeCaptureStop ref args) := rfl
theorem exec_querySlot (ref : Byte) (args : List Byte) (s : State) :
    exec (.querySlot ref args) s = s.takeMessage (OrderCode.query :: ref :: 0 :: args) (takeQuery 0 ref args) := rfl
theorem exec_queryHead (ref : Byte) (args : List Byte) (s : State) :
    exec (.queryHead ref args) s = s.takeMessage (OrderCode.query :: ref :: 1 :: args) (takeQuery 1 ref args) := rfl
theorem exec_queryCapture (ref : Byte) (args : List Byte) (s : State) :
    exec (.queryCapture ref args) s = s.takeMessage (OrderCode.query :: ref :: 2 :: args) (takeQuery 2 ref args) := rfl
theorem exec_queryTone (ref : Byte) (args : List Byte) (s : State) :
    exec (.queryTone ref args) s = s.takeMessage (OrderCode.query :: ref :: 3 :: args) (takeQuery 3 ref args) := rfl
theorem exec_queryPhrase (ref : Byte) (args : List Byte) (s : State) :
    exec (.queryPhrase ref args) s = s.takeMessage (OrderCode.query :: ref :: 4 :: args) (takeQuery 4 ref args) := rfl
theorem exec_querySummary (ref : Byte) (args : List Byte) (s : State) :
    exec (.querySummary ref args) s = s.takeMessage (OrderCode.query :: ref :: 5 :: args) (takeQuery 5 ref args) := rfl

end Sys2Proof.Machine

/-! PROOF. What the Sequencer and the Head Pool keep: a property kept by the five elementary updates they are made of is
kept by every one of their operations. Each induction over their folds is done here, once. -/

namespace Sys2Proof.Machine

/-! ### What an act on a live context leaves of it -/

/-- The context `d` runs the programme of `c`: template, mode, tag and parameters are those a PLAY order set (R72), and the
frame work outstanding for it is the same. -/
structure Ctx.Kin (c d : Ctx) : Prop where
  template : d.template = c.template
  mode : d.mode = c.mode
  tag : d.tag = c.tag
  params : d.params = c.params
  todo : d.todo = c.todo

theorem Ctx.Kin.refl (c : Ctx) : c.Kin c := ⟨rfl, rfl, rfl, rfl, rfl⟩

theorem Ctx.Kin.trans {c d e : Ctx} (h : c.Kin d) (k : d.Kin e) : c.Kin e :=
  ⟨k.template.trans h.template, k.mode.trans h.mode, k.tag.trans h.tag, k.params.trans h.params, k.todo.trans h.todo⟩

theorem Ctx.kin_pass (c : Ctx) : c.Kin c.pass := by unfold Ctx.pass; split <;> exact ⟨rfl, rfl, rfl, rfl, rfl⟩

theorem Ctx.kin_complete (c : Ctx) : c.Kin c.complete := c.kin_pass.trans ⟨rfl, rfl, rfl, rfl, rfl⟩

theorem Ctx.kin_pass_skip (c : Ctx) : c.Kin c.pass.skip := c.kin_pass.trans ⟨rfl, rfl, rfl, rfl, rfl⟩

theorem Ctx.kin_abandon (c : Ctx) : c.Kin c.abandon := c.kin_pass_skip.trans ⟨rfl, rfl, rfl, rfl, rfl⟩

theorem Ctx.kin_countAt (c : Ctx) (o : Nat) : c.Kin (c.countAt o) := by
  unfold Ctx.countAt; split <;> exact ⟨rfl, rfl, rfl, rfl, rfl⟩

theorem Ctx.kin_bind (c : Ctx) (h : Nat) (r : HeadRun) (mark : Nat) (hears : Bool) : c.Kin (c.bind h r mark hears) :=
  ⟨rfl, rfl, rfl, rfl, rfl⟩

theorem Ctx.kin_startPlaying (c : Ctx) : c.Kin c.startPlaying := ⟨rfl, rfl, rfl, rfl, rfl⟩

theorem Ctx.kin_repeatStep (c : Ctx) (k target times : Nat) : c.Kin (c.repeatStep k target times).1 := by
  unfold Ctx.repeatStep; (repeat' split) <;> exact ⟨rfl, rfl, rfl, rfl, rfl⟩

/-! ### The elementary updates -/

/-- The record `r` put onto head `h` has no byte to read at the frame event in hand that the head had not before. -/
def State.readsNoMore (s : State) (h : Nat) (r : Option HeadRun) : Prop :=
  ∀ q, r = some q → q.reads = true →
    ∃ p, s.headRun h = some p ∧ p.reads = true ∧ q.start + q.offset ≤ p.start + p.offset

/-- The elementary updates of the Sequencer and the Head Pool keep `P`: a live context changed, a head's record replaced,
the wait queue replaced, an ordinary notice queued. A head is started and a queue begun while the gate is OPEN only (R101). -/
structure KeptByPool (P : State → Prop) : Prop where
  modifyCtx : ∀ s k f, (∀ c, s.ctx k = some c → c.Kin (f c)) → P s → P (s.modifyCtx k f) := by intros; assumption
  setHeadRun : ∀ s h r, (r = none ∨ (s.headRun h).isSome ∨ s.su.gate = .isOpen) → s.readsNoMore h r →
    P s → P (s.setHeadRun h r) := by intros; assumption
  setQueue : ∀ s q, (q = [] ∨ s.pool.queue ≠ [] ∨ s.su.gate = .isOpen) → P s → P (s.setQueue q) := by intros; assumption
  queueOrdinary : ∀ s n, P s → P (s.queueOrdinary n) := by intros; assumption

/-- The state a step's beginning leaves has the property, whichever way it goes on. -/
def Begun.Holds (P : State → Prop) : Begun → Prop
  | .stop t => P t
  | .pass t => P t
  | .over => True

namespace KeptByPool

variable {P : State → Prop} (K : KeptByPool P)
include K

theorem modifyCtxs {f : Ctx → Ctx} (hf : ∀ c : Ctx, c.Kin (f c)) (l : List Nat) (s : State) (hP : P s) :
    P (s.modifyCtxs l f) :=
  foldl_inv P _ (fun s k => K.modifyCtx s k f fun c _ => hf c) l s hP

theorem queueAll (ns : List Notice) (s : State) (hP : P s) : P (s.queueAll ns) :=
  foldl_inv P _ (fun s n => K.queueOrdinary s n) ns s hP

/-- A live context replaced by one of the same programme. -/
theorem setCtx {s : State} {k : Nat} {c d : Ctx} (hc : s.ctx k = some c) (hd : c.Kin d) (hP : P s) :
    P (s.setCtx k (some d)) := by
  rw [← State.modifyCtx_eq_setCtx hc fun _ => d]
  exact K.modifyCtx s k _ (fun e he => by rw [hc] at he; cases he; exact hd) hP

theorem freeHead (s : State) (h : Nat) (hP : P s) : P (s.setHeadRun h none) :=
  K.setHeadRun s h none (.inl rfl) (fun _ hq => by cases hq) hP

/-- A head's record changed where it stands: no read is added. -/
theorem changeHead {s : State} {h : Nat} {r q : HeadRun} (hr : s.headRun h = some r)
    (hq : q.reads = true → r.reads = true) (hle : q.start + q.offset ≤ r.start + r.offset) (hP : P s) :
    P (s.setHeadRun h (some q)) :=
  K.setHeadRun s h _ (.inr (.inl (by simp [hr]))) (fun _ he hread => by cases he; exact ⟨r, hr, hq hread, hle⟩) hP

theorem startHead {s : State} {h : Nat} {kind : ReqKind} {p : Nat} (hg : s.su.gate = .isOpen) (hP : P s) :
    P (s.startHead h kind p) := by
  unfold State.startHead
  split
  · exact K.setHeadRun s h _ (.inr (.inr hg)) (fun q hq hread => by cases hq; cases hread) hP
  · exact hP

theorem revive (s : State) (h : Nat) (hP : P s) : P (s.revive h) := by
  unfold State.revive
  split
  · next r hr =>
    split
    · exact K.changeHead (q := { r with phase := .running }) hr id le_rfl hP
    · exact hP
    · exact hP
  · exact hP

theorem subscribe (s : State) (own : Bool) (k h : Nat) (hP : P s) : P (s.subscribe own k h) := by
  unfold State.subscribe
  split
  · exact hP
  · refine K.modifyCtx s k _ (fun c _ => ?_) hP
    dsimp only
    split
    · exact (c.kin_bind _ _ _ _).trans (Ctx.kin_countAt _ _)
    · exact c.kin_bind _ _ _ _

theorem enqueue {s : State} {k p : Nat} {kind : ReqKind} (hg : s.su.gate = .isOpen) (hP : P s) :
    P (s.enqueue k p kind) :=
  K.setQueue _ _ (.inr (.inr hg)) (K.modifyCtx s k _ (fun _ _ => ⟨rfl, rfl, rfl, rfl, rfl⟩) hP)

theorem request {s t : State} {own : Bool} {k p : Nat} {kind : ReqKind} (h : s.request own k p kind = some t)
    (hP : P s) : P t := by
  unfold State.request at h
  split at h
  · next hplay =>
    have hg := State.gate_of_playable hplay
    have hQ := K.modifyCtx s k (fun c => { c with request := some (p, kind.mode) })
      (fun c _ => ⟨rfl, rfl, rfl, rfl, rfl⟩) hP
    dsimp only at h
    split at h
    · cases h; exact K.subscribe _ own k _ (K.revive _ _ hQ)
    · split at h
      · cases h; exact K.subscribe _ own k _ (K.startHead hg hQ)
      · cases h; exact K.enqueue hg hQ
  · cases h

theorem grantTo (s : State) (h k : Nat) (hP : P s) : P (s.grantTo h k) := by
  unfold State.grantTo
  split
  · exact K.modifyCtx s k _ (fun c _ => ⟨rfl, rfl, rfl, rfl, rfl⟩) hP
  · exact hP

theorem offer (s : State) (h : Nat) (hP : P s) : P (s.offer h) := by
  unfold State.offer
  dsimp only
  have hQ := K.modifyCtxs Ctx.kin_abandon ((s.pool.queue.takeWhile fun w => !s.playable w.phrase).map Waiter.slot) s hP
  split
  · exact K.setQueue _ _ (.inl rfl) hQ
  · next w ws hrest =>
    have hw : s.playable w.phrase = true := by
      simpa [hrest] using List.head_dropWhile_not (fun w : Waiter => !s.playable w.phrase) (l := s.pool.queue)
        (by simp [hrest])
    have hg := State.gate_of_playable hw
    have hbackdrop : ∀ (l : List Nat) (t : State), (l.foldl (fun t k => t.grantTo h k) t).backdrop = t.backdrop :=
      foldl_keeps State.backdrop _ fun t k => t.backdrop_grantTo h k
    refine K.setQueue _ _ (.inr (.inr ?_)) (foldl_inv P _ (fun t k => K.grantTo t h k) _ _ (K.startHead ?_ hQ))
    · rw [State.su_of_backdrop (hbackdrop _ _), State.su_of_backdrop (State.backdrop_startHead ..),
        State.su_of_backdrop (State.backdrop_modifyCtxs ..)]
      exact hg
    · rw [State.su_of_backdrop (State.backdrop_modifyCtxs ..)]
      exact hg

theorem restHead (s : State) (h : Nat) (hP : P s) : P (s.restHead h) := by
  unfold State.restHead
  split
  · next r hr =>
    split
    · unfold State.restedRun
      split
      · split
        · exact K.freeHead s h hP
        · exact K.changeHead hr id le_rfl hP
      · exact K.changeHead hr id le_rfl hP
      · exact K.freeHead s h hP
      · exact K.freeHead s h hP
    · exact hP
  · exact hP

theorem settleHeads (s : State) (l : List Nat) (hP : P s) : P (s.settleHeads l) := by
  unfold State.settleHeads
  refine foldl_inv P _ (fun t h hP => ?_) _ _ (foldl_inv P _ (fun t h => K.restHead t h) _ _ hP)
  split
  · exact hP
  · exact K.offer t h hP

/-- Waiters leave the queue. -/
theorem filterQueue (s : State) (f : Waiter → Bool) (hP : P s) : P (s.setQueue (s.pool.queue.filter f)) := by
  refine K.setQueue s _ ?_ hP
  cases hq : s.pool.queue with
  | nil => exact .inl rfl
  | cons w ws => exact .inr (.inl (List.cons_ne_nil w ws))

theorem leavePool {l : List Nat} (free : ∀ s, ∀ k ∈ l, P s → P (s.setCtx k none)) (s : State) (hP : P s) :
    P (s.leavePool l) := by
  unfold State.leavePool
  have hfree : ∀ (m : List Nat) (t : State), (∀ k ∈ m, k ∈ l) → P t → P (m.foldl (fun t k => t.setCtx k none) t) := by
    intro m
    induction m with
    | nil => exact fun t _ hP => hP
    | cons k m ih => exact fun t hm hP => ih _ (fun j hj => hm j (.tail k hj)) (free t k (hm k (.head m)) hP)
  exact K.settleHeads _ _ (K.filterQueue _ _ (hfree l s (fun _ hk => hk) hP))

theorem endProgrammes {l : List Nat} (free : ∀ s, ∀ k ∈ l, P s → P (s.setCtx k none)) (s : State) (cause : EndCause)
    (hP : P s) : P (s.endProgrammes l cause) :=
  K.queueAll _ _ (K.leavePool free s hP)

theorem expireGather (s : State) (h : Nat) (hP : P s) : P (s.expireGather h) := by
  unfold State.expireGather
  split
  · next r hr =>
    exact K.modifyCtxs Ctx.kin_startPlaying _ _
      (K.changeHead (q := { r with phase := .running, offset := 0 }) hr id (Nat.le_add_right r.start r.offset) hP)
  · exact hP

theorem completeOn (s : State) (h : Nat) (l : List Nat) (hP : P s) : P (s.completeOn h l) :=
  K.settleHeads _ _ (K.modifyCtxs Ctx.kin_complete l s hP)

theorem expireWait (s : State) (k : Nat) (hP : P s) : P (s.expireWait k) :=
  K.filterQueue (s.modifyCtx k Ctx.abandon) _ (K.modifyCtx s k _ (fun c _ => c.kin_abandon) hP)

theorem countHead (s : State) (h : Nat) (hP : P s) : P (s.countHead h) := by
  rcases s.countHead_cases h with ⟨r, hr, _, heq⟩ | ⟨heq, _⟩
  · rw [heq]; exact K.changeHead (q := r.counted) hr id le_rfl hP
  · rw [heq]; exact hP

/-! ### Going on -/



theorem answer (s : State) (own : Bool) (k p : Nat) (kind : ReqKind) (hP : P s) :
    (s.answer own k p kind).Holds P := by
  unfold State.answer
  split
  · next h => exact K.request h hP
  · exact K.modifyCtx s k _ (fun c _ => c.kin_pass_skip) hP

theorem beginStep {s : State} {own : Bool} {k : Nat} {c : Ctx} {t : Template} (hc : s.ctx k = some c) (hP : P s) :
    (s.beginStep own k c t).Holds P := by
  unfold State.beginStep
  split
  · trivial
  · exact K.setCtx hc ⟨rfl, rfl, rfl, rfl, rfl⟩ hP
  · exact K.setCtx hc ⟨rfl, rfl, rfl, rfl, rfl⟩ hP
  · exact K.answer s own k _ _ hP
  · exact K.answer _ own k _ _ (K.setCtx hc ⟨rfl, rfl, rfl, rfl, rfl⟩ hP)
  · split
    · exact K.answer s own k _ _ hP
    · split <;> exact K.setCtx hc ⟨rfl, rfl, rfl, rfl, rfl⟩ hP
  · dsimp only
    split <;> exact K.setCtx hc (c.kin_repeatStep _ _ _) hP

theorem goOn {k : Nat} (free : ∀ s, P s → P (s.setCtx k none)) (own : Bool) (n : Nat) (s : State) (hP : P s) :
    P (State.goOn own k n s) := by
  induction n generalizing s with
  | zero => exact hP
  | succ n ih =>
    rw [State.goOn]
    split
    · exact hP
    · next c hc =>
      split
      · exact hP
      · next t _ =>
        have hbegun := K.beginStep (own := own) (t := t) hc hP
        split
        · next h => rw [h] at hbegun; exact hbegun
        · next h => rw [h] at hbegun; exact ih _ hbegun
        · exact K.endProgrammes (fun s j hj => by rw [List.mem_singleton.1 hj]; exact free s) s _ hP

theorem goOnSlot {k : Nat} (free : ∀ s, P s → P (s.setCtx k none)) (s : State) (own : Bool) (hP : P s) :
    P (s.goOnSlot own k) := by
  unfold State.goOnSlot
  split
  · exact hP
  · split
    · exact hP
    · exact K.goOn free own _ s hP

end KeptByPool

end Sys2Proof.Machine

/-! PROOF. What every step keeps: a property kept by the elementary updates of the units, and by the three changes of the
whole state (arrival of a frame event, restart, power-on), is kept by every command. -/

namespace Sys2Proof.Machine

/-! ### The law of the lane records (R8) -/

/-- R8 for the Lane Receiver's records; `State.laneLaw` says it of the state. -/
def LaneReceiver.Lawful (r : LaneReceiver) : Prop :=
  (∀ p < 4, ∀ x, r.lanes[p]? = some x → x.align = .aligned → ∃ l, x.identity = some l ∧ l < r.width) ∧
  (∀ p < 4, ∀ q < 4, ∀ x y, r.lanes[p]? = some x → r.lanes[q]? = some y → x.align = .aligned → y.align = .aligned →
    x.identity = y.identity → p = q)

theorem State.laneLaw_iff (s : State) : s.laneLaw ↔ s.rx.Lawful := Iff.rfl

/-- The lane `y` is ALIGNED only where `x` is, and then has its identity. -/
def Lane.Within (x y : Lane) : Prop := y.align = .aligned → x.align = .aligned ∧ x.identity = y.identity

theorem Lane.Within.refl (x : Lane) : x.Within x := fun h => ⟨h, rfl⟩

theorem Lane.Within.trans {x y z : Lane} (h : x.Within y) (k : y.Within z) : x.Within z := fun hz =>
  ⟨(h (k hz).1).1, (h (k hz).1).2.trans (k hz).2⟩

theorem LaneReceiver.Lawful.of_within {r t : LaneReceiver}
    (hlanes : ∀ p < 4, ∀ y, t.lanes[p]? = some y → ∃ x, r.lanes[p]? = some x ∧ x.Within y)
    (hwidth : ∀ p < 4, ∀ y l, t.lanes[p]? = some y → y.align = .aligned → y.identity = some l → l < r.width → l < t.width)
    (h : r.Lawful) : t.Lawful := by
  obtain ⟨hid, hone⟩ := h
  constructor
  · intro p hp y hy ha
    obtain ⟨x, hx, hxy⟩ := hlanes p hp y hy
    obtain ⟨l, hl, hlt⟩ := hid p hp x hx (hxy ha).1
    have hl' : y.identity = some l := (hxy ha).2 ▸ hl
    exact ⟨l, hl', hwidth p hp y l hy ha hl' hlt⟩
  · intro p hp q hq y z hy hz hya hza heq
    obtain ⟨x, hx, hxy⟩ := hlanes p hp y hy
    obtain ⟨v, hv, hvz⟩ := hlanes q hq z hz
    exact hone p hp q hq x v hx hv (hxy hya).1 (hvz hza).1 ((hxy hya).2.trans (heq.trans (hvz hza).2.symm))

/-- Lane records changed one by one, none of them newly ALIGNED, keep the law. -/
theorem LaneReceiver.Lawful.map {r : LaneReceiver} {f : Lane → Lane} (hf : ∀ x : Lane, x.Within (f x)) (h : r.Lawful) :
    ({ r with lanes := r.lanes.map f } : LaneReceiver).Lawful := by
  refine of_within (r := r) (fun p _ y hy => ?_) (fun _ _ _ _ _ _ _ hl => hl) h
  rw [List.getElem?_map] at hy
  obtain ⟨x, hx, rfl⟩ := Option.map_eq_some_iff.1 hy
  exact ⟨x, hx, hf x⟩

theorem LaneReceiver.Lawful.modify {r : LaneReceiver} {f : Lane → Lane} (hf : ∀ x : Lane, x.Within (f x)) (p : Nat)
    (h : r.Lawful) : ({ r with lanes := r.lanes.modify p f } : LaneReceiver).Lawful := by
  refine of_within (r := r) (fun q _ y hy => ?_) (fun _ _ _ _ _ _ _ hl => hl) h
  rw [List.getElem?_modify] at hy
  obtain ⟨x, hx, rfl⟩ := Option.map_eq_some_iff.1 hy
  refine ⟨x, hx, ?_⟩
  split
  · exact hf x
  · exact Lane.Within.refl x

theorem Lane.within_toHunt (x : Lane) : x.Within x.toHunt := fun h => nomatch h

theorem Lane.within_toSpare (x : Lane) : x.Within x.toSpare := fun h => nomatch h

theorem Lane.within_dropSpare (l : Nat) (x : Lane) : x.Within (x.dropSpare l) := by
  unfold Lane.dropSpare; split
  · exact x.within_toHunt
  · exact Lane.Within.refl x

theorem Lane.within_raised (x : Lane) : x.Within x.raised := by
  unfold Lane.raised; split
  · exact x.within_toHunt
  · exact Lane.Within.refl x

theorem Lane.within_lowered (w : Nat) (x : Lane) : x.Within (x.lowered w) := by
  unfold Lane.lowered; split
  · exact x.within_toSpare
  · exact Lane.Within.refl x

theorem Lane.within_huntByte (x : Lane) (b : Byte) : x.Within (x.huntByte b) := by
  unfold Lane.huntByte
  (repeat' split) <;> first | exact Lane.Within.refl x | exact fun h => nomatch h

theorem Lane.within_arrive (x : Lane) (f : LaneFrame) (late : Bool) : x.Within (x.arrive f late) := by
  unfold Lane.arrive
  split
  · split
    · exact foldl_inv x.Within _ (fun y b hy => hy.trans (y.within_huntByte b)) _ x (Lane.Within.refl x)
    · exact fun h => nomatch h
  · split
    · next hc _ => exact fun h => nomatch (hc.symm.trans h : Align.check = .aligned)
    · exact x.within_toHunt
  · unfold Lane.receive
    split <;> exact fun h => ⟨h, rfl⟩
  · exact fun h => ⟨h, rfl⟩

theorem Lane.within_take (x : Lane) : x.Within x.take := by
  unfold Lane.take; split <;> exact fun h => ⟨h, rfl⟩

theorem LaneReceiver.Lawful.lower {r : LaneReceiver} (w : Nat) (h : r.Lawful) :
    ({ r with width := w, lanes := r.lanes.map (Lane.lowered w) } : LaneReceiver).Lawful := by
  refine h.of_within (fun p _ y hy => ?_) fun p _ y l hy ha hl _ => ?_
  all_goals
    rw [List.getElem?_map] at hy
    obtain ⟨x, hx, rfl⟩ := Option.map_eq_some_iff.1 hy
  · exact ⟨x, hx, x.within_lowered w⟩
  · by_contra hge
    obtain ⟨hxa, hxl⟩ := x.within_lowered w ha
    have hcut : x.lowered w = x.toSpare := if_pos ⟨hxa, by simp [hxl, hl, Nat.le_of_not_lt hge]⟩
    rw [hcut] at ha
    cases ha

theorem State.not_holds_of_unmapped {s : State} {l p : Nat} {x : Lane} (h : s.mapped l = false) (hp : p < 4)
    (hx : s.rx.lanes[p]? = some x) (ha : x.align = .aligned) : x.identity ≠ some l := by
  intro hid
  simp only [State.mapped, State.map, laneMap, Option.isSome_eq_false_iff, Option.isNone_iff_eq_none,
    List.find?_eq_none, List.mem_range] at h
  exact h p hp (by simp [hx, Lane.holds, ha, hid])

/-- R5: a lane whose identity is below the width and unheld may become ALIGNED. -/
theorem State.lawful_toAligned {s : State} {l p : Nat} {x : Lane} (hx : s.lane p = some x) (hid : x.identity = some l)
    (hl : l < s.rx.width) (hfree : s.mapped l = false) (h : s.rx.Lawful) : (s.modifyLane p Lane.toAligned).rx.Lawful := by
  obtain ⟨hids, hone⟩ := h
  have hget : ∀ q y, (s.modifyLane p Lane.toAligned).rx.lanes[q]? = some y →
      (q = p ∧ y = x.toAligned) ∨ (q ≠ p ∧ s.rx.lanes[q]? = some y) := by
    intro q y hy
    rw [State.modifyLane_lanes, List.getElem?_modify] at hy
    by_cases hq : p = q
    · subst hq
      have hx' : s.rx.lanes[p]? = some x := hx
      simp only [hx', if_true] at hy
      exact .inl ⟨rfl, by cases hy; rfl⟩
    · simp only [hq, if_false] at hy
      refine .inr ⟨Ne.symm hq, ?_⟩
      obtain ⟨z, hz, rfl⟩ := Option.map_eq_some_iff.1 hy
      exact hz
  constructor
  · intro q hq y hy ha
    rcases hget q y hy with ⟨-, rfl⟩ | ⟨-, hy⟩
    · exact ⟨l, hid, hl⟩
    · exact hids q hq y hy ha
  · intro q hq q' hq' y z hy hz hya hza heq
    rcases hget q y hy with ⟨hqp, rfl⟩ | ⟨-, hy'⟩ <;> rcases hget q' z hz with ⟨hqp', rfl⟩ | ⟨-, hz'⟩
    · exact hqp.trans hqp'.symm
    · exact absurd (heq.symm.trans hid) (State.not_holds_of_unmapped hfree hq' hz' hza)
    · exact absurd (heq.trans hid) (State.not_holds_of_unmapped hfree hq hy' hya)
    · exact hone q hq q' hq' y z hy' hz' hya hza heq

/-! ### What the Sequencer's and the Head Pool's operations leave of the programmes -/

/-- Every programme live in `t` was live in `s` on the same slot. -/
def State.Descends (s t : State) : Prop := ∀ j y, t.ctx j = some y → ∃ x, s.ctx j = some x ∧ x.Kin y

theorem State.descends_refl (s : State) : s.Descends s := fun _ y hy => ⟨y, hy, Ctx.Kin.refl y⟩

theorem State.keptByPool_descends (s : State) : KeptByPool s.Descends where
  modifyCtx t k f hf hP j y hy := by
    rw [State.ctx_modifyCtx] at hy
    split at hy
    · next hj =>
      obtain ⟨z, hz, rfl⟩ := Option.map_eq_some_iff.1 hy
      obtain ⟨x, hx, hxz⟩ := hP k z hz
      exact ⟨x, hj ▸ hx, hxz.trans (hf z hz)⟩
    · exact hP j y hy
  setHeadRun _ _ _ _ _ hP := hP
  setQueue t q _ hP j y hy := hP j y ((State.ctx_congr (by simp) j).symm.trans hy)
  queueOrdinary t n hP j y hy := hP j y ((State.ctx_congr (by simp) j).symm.trans hy)

theorem State.Descends.free {s t : State} (h : s.Descends t) (k : Nat) : s.Descends (t.setCtx k none) := by
  intro j y hy
  rw [State.ctx_setCtx_none] at hy
  split at hy
  · cases hy
  · exact h j y hy

theorem State.descends_endProgrammes (s : State) (l : List Nat) (cause : EndCause) :
    s.Descends (s.endProgrammes l cause) :=
  s.keptByPool_descends.endProgrammes (fun _ k _ h => h.free k) s cause s.descends_refl

/-! ### A change of map -/

@[simp] theorem State.modifyCtxs_pool (s : State) (l : List Nat) (f : Ctx → Ctx) : (s.modifyCtxs l f).pool = s.pool :=
  foldl_keeps State.pool (fun t k => t.modifyCtx k f) (fun _ _ => rfl) l s

@[simp] theorem State.modifyCtxs_sender (s : State) (l : List Nat) (f : Ctx → Ctx) :
    (s.modifyCtxs l f).sender = s.sender :=
  foldl_keeps State.sender (fun t k => t.modifyCtx k f) (fun _ _ => rfl) l s

theorem State.stopPool_queue (s : State) : s.stopPool.pool.queue = [] := by simp [State.stopPool]

theorem State.stopPool_heads (s : State) :
    s.stopPool.pool.heads = s.pool.heads.map fun x => { x with run := none } := by simp [State.stopPool]

theorem State.loadMap_abortCapture (s : State) (w : List Window) (cause : CaptureCause) (c : Nat) :
    (s.loadMap w).abortCapture cause c = (s.abortCapture cause c).loadMap w := by
  unfold State.abortCapture
  rw [show (s.loadMap w).capture c = s.capture c from rfl]
  cases s.capture c with
  | none => rfl
  | some x => simp only [State.queueOrdinary_eq]; rfl

theorem State.loadMap_abortAll (s : State) (w : List Window) : (s.loadMap w).abortAll = s.abortAll.loadMap w := by
  simp only [State.abortAll, List.foldl_cons, List.foldl_nil, State.loadMap_abortCapture]

theorem State.loadMap_modifyCtxs (s : State) (w : List Window) (l : List Nat) (f : Ctx → Ctx) :
    (s.loadMap w).modifyCtxs l f = (s.modifyCtxs l f).loadMap w := by
  induction l generalizing s with
  | nil => rfl
  | cons k l ih => exact ih (s.modifyCtx k f)

theorem State.loadMap_setQueue (s : State) (w : List Window) (q : List Waiter) :
    (s.loadMap w).setQueue q = (s.setQueue q).loadMap w := by
  simp only [State.setQueue_eq]; rfl

/-- The order of the stages of R94 does not show. -/
theorem State.loadMap_stopPool (s : State) (w : List Window) : (s.loadMap w).stopPool = s.stopPool.loadMap w := by
  unfold State.stopPool
  simp only [State.loadMap_pool, State.loadMap_modifyCtxs, State.loadMap_setQueue]
  rfl

theorem State.loadMap_last (s : State) (w : List Window) :
    (s.loadMap w).abortAll.stopPool = s.abortAll.stopPool.loadMap w := by
  rw [State.loadMap_abortAll, State.loadMap_stopPool]

/-! ### The elementary updates of all units -/

/-- The elementary updates of the units keep `P`; those that plainly leave it alone need not be given. -/
structure KeptInFrame (P : State → Prop) : Prop extends KeptByPool P where
  clearTodo : ∀ s k, P s → P (s.modifyCtx k fun c => { c with todo := false }) := by intros; assumption
  freeCtx : ∀ s k, P s → P (s.setCtx k none) := by intros; assumption
  bindCtx : ∀ s k c, (∀ j < 128, j ≠ k → ∀ x, s.ctx j = some x → x.tag = c.tag → c.tag = none) → c.todo = false →
    P s → P (s.setCtx k (some c)) := by intros; assumption
  advanceHead : ∀ s h r p, s.headRun h = some r → P s →
    P (s.setHeads (s.pool.heads.modify h fun x => { x with run := some r.advance, sample := p })) := by intros; assumption
  stopHeads : ∀ s, P s → P (s.setHeads (s.pool.heads.map fun x => { x with run := none })) := by intros; assumption
  countWaits : ∀ s, P s → P s.countWaits := by intros; assumption
  plan : ∀ s g l m, P s → P { s with pool := { s.pool with gatherWindow := g, lingerTime := l, waitLimit := m } } := by intros; assumption
  rx : ∀ s r, (s.rx.Lawful → r.Lawful) → P s → P { s with rx := r } := by intros; assumption
  tables : ∀ s slots bank, P s → P { s with slots := slots, bank := bank } := by intros; assumption
  templates : ∀ s t, P s → P { s with seq := { s.seq with templates := t } } := by intros; assumption
  su : ∀ s u, u.store = s.su.store →
    (u.gate = .isOpen ∨ u.gate = s.su.gate ∨ (∀ x ∈ s.pool.heads, x.run = none) ∧ s.pool.queue = []) →
    P s → P { s with su := u } := by intros; assumption
  store : ∀ s a v, a < storeSize → P s → P { s with su := { s.su with store := storeWrite s.su.store a v } } := by intros; assumption
  setCapture : ∀ s c y, (∀ x, y = some x → x.todo = false) → P s → P (s.setCapture c y) := by intros; assumption
  orders : ∀ s o, P s → P { s with orders := o } := by intros; assumption
  queueLane : ∀ s l p news, P s → P (s.queueLane l p news) := by intros; assumption
  report : ∀ s x h, P s → P { s with sender := { s.sender with transmission := x, hold := h } } := by intros; assumption
  beginReport : ∀ s, P s → P s.beginReport := by intros; assumption
  restart : ∀ s, P s → P s.restart := by intros; assumption

namespace KeptInFrame

variable {P : State → Prop} (K : KeptInFrame P)
include K

theorem refuse (s : State) (cause : Cause) (code ref : Byte) (d : Nat) (hP : P s) : P (s.refuse cause code ref d) :=
  K.queueOrdinary s _ hP

theorem endProgrammes (s : State) (l : List Nat) (cause : EndCause) (hP : P s) : P (s.endProgrammes l cause) :=
  K.toKeptByPool.endProgrammes (fun s k _ => K.freeCtx s k) s cause hP

theorem goOnSlot (s : State) (own : Bool) (k : Nat) (hP : P s) : P (s.goOnSlot own k) :=
  K.toKeptByPool.goOnSlot (fun s => K.freeCtx s k) s own hP

theorem startProgramme {s : State} {k n : Nat} {mode : Insertion} {t : Template} {ps : List Nat} {tag : Option Nat}
    (htag : ∀ j < 128, j ≠ k → ∀ x, s.ctx j = some x → x.tag = tag → tag = none) (hP : P s) :
    P (s.startProgramme k n mode t ps tag) := by
  unfold State.startProgramme
  dsimp only
  refine K.goOnSlot _ _ _ (K.bindCtx _ _ _ (fun j hj hne y hy => ?_) rfl ?_)
  · split at hy
    · obtain ⟨x, hx, hxy⟩ := s.descends_endProgrammes _ _ j y hy
      exact fun hyt => htag j hj hne x hx (hxy.tag ▸ hyt)
    · exact htag j hj hne y hy
  · split
    · exact K.endProgrammes s _ _ hP
    · exact hP

theorem readHead {s : State} {h : Nat} {r : HeadRun} (hr : s.headRun h = some r) (hP : P s) : P (s.readHead h r) := by
  unfold State.readHead
  dsimp only
  have hQ := K.advanceHead s h r (some (phraseSample (storeRead s.su.store (r.start + r.offset)) r.trim)) hr hP
  split
  · exact K.modifyCtxs (fun c => c.kin_countAt _) _ _ hQ
  · exact hQ

theorem stopPool (s : State) (hP : P s) : P s.stopPool := by
  have hQ := K.setQueue _ [] (.inl rfl) (K.modifyCtxs Ctx.kin_abandon (s.pool.queue.map Waiter.slot) s hP)
  have h := K.stopHeads _ (K.modifyCtxs Ctx.kin_abandon ((List.range 24).flatMap
    ((s.modifyCtxs (s.pool.queue.map Waiter.slot) Ctx.abandon).setQueue []).subscribers) _ hQ)
  rwa [State.modifyCtxs_pool] at h

/-! ### Capture Channels -/

theorem writeCaptured (s : State) (x : Capture) (n : Nat) (hP : P s) : P (s.writeCaptured x n) :=
  K.su s { s.su with directory := s.su.directory.set x.phrase (some
      { state := .valid, window := x.window, offset := x.offset, length := n, trim := 128 }) } rfl (.inr (.inl rfl)) hP

theorem freeCapture (s : State) (c : Nat) (hP : P s) : P (s.setCapture c none) :=
  K.setCapture s c none (fun _ h => nomatch h) hP

theorem endRecording (s : State) (c : Nat) (x : Capture) (cause : CaptureCause) (n : Nat) (hP : P s) :
    P (s.endRecording c x cause n) := by
  unfold State.endRecording
  split
  · exact K.queueOrdinary _ _ (K.freeCapture s c hP)
  · exact K.queueOrdinary _ _ (K.freeCapture _ c (K.writeCaptured s x n hP))

theorem abortCapture (s : State) (cause : CaptureCause) (c : Nat) (hP : P s) : P (s.abortCapture cause c) := by
  unfold State.abortCapture
  split
  · exact K.queueOrdinary _ _ (K.freeCapture s c hP)
  · exact hP

theorem abortOnLane (s : State) (o : LossOrder) (l : Nat) (hP : P s) : P (s.abortOnLane o l) :=
  foldl_inv P _ (fun s c => K.abortCapture s _ c) _ s hP

theorem abortAll (s : State) (hP : P s) : P s.abortAll := foldl_inv P _ (fun s c => K.abortCapture s _ c) _ s hP

theorem expireVoice (s : State) (c : Nat) (hP : P s) : P (s.expireVoice c) := by
  unfold State.expireVoice
  split
  · exact K.queueOrdinary _ _ (K.freeCapture s c hP)
  · exact hP

theorem endFull (s : State) (c : Nat) (hP : P s) : P (s.endFull c) := by
  unfold State.endFull
  split
  · exact K.endRecording s c _ _ _ hP
  · exact hP

theorem endSilence (s : State) (c : Nat) (hP : P s) : P (s.endSilence c) := by
  unfold State.endSilence
  split
  · exact K.endRecording s c _ _ _ hP
  · exact hP

theorem stopCapture (s : State) (c : Nat) (hP : P s) : P (s.stopCapture c) := by
  unfold State.stopCapture
  split
  · exact K.endRecording s c _ _ _ hP
  · exact hP

theorem writeByte {s : State} {c : Nat} {x : Capture} {b : Byte} {u : Bool} (ha : x.start + x.written < storeSize)
    (hx : x.todo = false) (hP : P s) : P (s.writeByte c x b u) :=
  K.setCapture _ c _ (fun _ hy => by cases hy; exact hx) (K.store s _ _ ha hP)

/-! ### Lanes -/

theorem setLanes {s : State} {lanes : List Lane} (h : s.rx.Lawful → ({ s.rx with lanes } : LaneReceiver).Lawful)
    (hP : P s) : P (s.setLanes lanes) := K.rx s _ h hP

theorem modifyLane {s : State} {p : Nat} {f : Lane → Lane} (hf : ∀ x : Lane, x.Within (f x)) (hP : P s) :
    P (s.modifyLane p f) := K.setLanes (fun h => h.modify hf p) hP

theorem controlChanged (s b : State) (hP : P s) : P (s.controlChanged b) := by
  unfold State.controlChanged
  split
  · exact hP
  · exact K.orders _ _ (K.rx s { s.rx with clockTaken := false, clockDue := false } (fun h => h) hP)

theorem passOnLoss (s : State) (o : LossOrder) (l p : Nat) (news : LaneNews) (hP : P s) :
    P (s.passOnLoss o l p news) := by
  have hunits : ∀ t, P t →
      P (if o.capturesFirst then (t.abortOnLane o l).loseProgrammes l else (t.loseProgrammes l).abortOnLane o l) := by
    intro t ht
    split
    · exact K.endProgrammes _ _ _ (K.abortOnLane t o l ht)
    · exact K.abortOnLane _ o l (K.endProgrammes t _ _ ht)
  unfold State.passOnLoss
  cases o.noticeFirst
  · exact K.queueLane _ l p news (hunits s hP)
  · exact hunits _ (K.queueLane s l p news hP)

theorem endLane (s : State) (o : LossOrder) (p : Nat) (hP : P s) : P (s.endLane o p) := by
  unfold State.endLane
  split
  · exact hP
  · split
    · exact K.passOnLoss _ o _ p _ (K.controlChanged _ _ (K.setLanes
        (fun h => (h.modify Lane.within_toHunt p).map (Lane.within_dropSpare _)) hP))
    · exact K.modifyLane Lane.within_toHunt hP
    · exact K.modifyLane Lane.within_toHunt hP
    · exact hP
    · exact hP

theorem completeCheck (s : State) (p : Nat) (hP : P s) : P (s.completeCheck p) := by
  unfold State.completeCheck
  split
  · exact hP
  · next x hx =>
    split
    · exact hP
    · next l hid =>
      split
      · next hcond =>
        have hQ := K.queueLane _ l p .aligned (K.controlChanged _ s (K.rx s (s.modifyLane p Lane.toAligned).rx
          (State.lawful_toAligned hx hid hcond.1 hcond.2) hP))
        dsimp only
        split
        · exact K.rx _ { (((s.modifyLane p Lane.toAligned).controlChanged s).queueLane l p .aligned).rx with
            clockTaken := x.late, clockDue := x.late } (fun h => h) hQ
        · exact hQ
      · exact K.queueLane _ l p .spare (K.modifyLane Lane.within_toSpare hP)

theorem changeWidth (s : State) (o : LossOrder) (w : Nat) (hP : P s) : P (s.changeWidth o w) := by
  unfold State.changeWidth
  split
  · exact foldl_inv P _ (fun t l => K.passOnLoss t o l _ .spare) _ _ (K.controlChanged _ s
      (K.rx s { s.rx with width := w, lanes := s.rx.lanes.map (Lane.lowered w) } (fun h => h.lower w) hP))
  · split
    · next hw =>
      refine K.rx s { s.rx with width := w, lanes := s.rx.lanes.map Lane.raised } (fun h => ?_) hP
      exact LaneReceiver.Lawful.of_within (r := { s.rx with lanes := s.rx.lanes.map Lane.raised })
        (fun _ _ y hy => ⟨y, hy, Lane.Within.refl y⟩) (fun _ _ _ _ _ _ _ hl => Nat.lt_trans hl hw)
        (h.map Lane.within_raised)
    · exact hP

theorem arriveOn (s : State) (p : Nat) (f : LaneFrame) (late : Bool) (hP : P s) : P (s.arriveOn p f late) := by
  have hQ := K.modifyLane (p := p) (fun x => x.within_arrive f late) hP
  unfold State.arriveOn State.clockArrival
  dsimp only
  split
  · split
    · exact K.rx _ { (s.modifyLane p fun x => x.arrive f late).rx with clockTaken := true, clockDue := true }
        (fun h => h) hQ
    · exact hQ
  · exact hQ

/-! ### The parser and the orders -/

theorem setParser (s : State) (p : Parser) (hP : P s) : P (s.setParser p) := K.orders s _ hP

theorem garble (s : State) (n : Nat) (hP : P s) : P (s.garble n) := K.queueOrdinary _ _ (K.setParser s .hunt hP)

theorem parseByte (s : State) (b : Byte) (u : Bool) (hP : P s) : P (s.parseByte b u) := by
  unfold State.parseByte
  split
  · split
    · exact K.setParser s _ hP
    · exact hP
  · split
    · exact K.garble s _ hP
    · split
      · exact K.setParser s _ hP
      · exact K.garble s _ hP
  · split
    · exact K.garble s _ hP
    · exact K.setParser s _ hP
  · split
    · exact K.garble s _ hP
    · split
      · exact K.orders s _ hP
      · exact K.garble s _ hP

theorem takeLanePlan (ref : Byte) (args : List Byte) (o : LossOrder) (s : State) (hP : P s) :
    P (takeLanePlan ref args o s) := by
  unfold Machine.takeLanePlan
  dsimp only
  (repeat' split) <;> first
    | exact K.refuse s _ _ _ _ hP
    | exact K.changeWidth _ o _ (K.rx s { s.rx with restartSet := _, qualCount := 0 } (fun h => h) hP)

theorem takeSetSlots (ref : Byte) (args : List Byte) (s : State) (hP : P s) : P (takeSetSlots ref args s) := by
  unfold Machine.takeSetSlots
  (repeat' split) <;> first | exact K.refuse s _ _ _ _ hP | exact K.tables s _ s.bank hP

theorem takeTone (ref : Byte) (args : List Byte) (s : State) (hP : P s) : P (takeTone ref args s) := by
  unfold Machine.takeTone
  (repeat' split) <;> first | exact K.refuse s _ _ _ _ hP | exact K.tables s s.slots _ hP

theorem takeCadence (ref : Byte) (args : List Byte) (s : State) (hP : P s) : P (takeCadence ref args s) := by
  unfold Machine.takeCadence
  (repeat' split) <;> first | exact K.refuse s _ _ _ _ hP | exact K.tables s s.slots _ hP

theorem takeTemplate (ref : Byte) (args : List Byte) (s : State) (hP : P s) : P (takeTemplate ref args s) := by
  unfold Machine.takeTemplate
  (repeat' split) <;> first | exact K.refuse s _ _ _ _ hP | exact K.templates s _ hP

omit K in
/-- R71: a PLAY that passes the checks gives its slot a nonzero tag that no other live context holds. -/
theorem tag_of_playRefusal {s : State} {args : List Byte} (h : s.playRefusal args = none) :
    ∀ j < 128, j ≠ field16 args 0 → ∀ x, s.ctx j = some x → x.tag = playTag args → playTag args = none := by
  intro j hj hne x hx htag
  unfold State.playRefusal at h
  dsimp only at h
  repeat' split at h
  all_goals try cases h
  next hheld _ _ =>
  by_contra hsome
  refine hheld ?_
  simp only [State.tagHeld, Bool.and_eq_true, List.any_eq_true, State.liveSlots, List.mem_filter, List.mem_range]
  exact ⟨Option.isSome_iff_ne_none.2 hsome, j, ⟨hj, by simp [hx]⟩, by simp [hne], by simp [hx, htag]⟩

theorem takePlay (ref : Byte) (args : List Byte) (s : State) (hP : P s) : P (takePlay ref args s) := by
  unfold Machine.takePlay
  split
  · exact K.refuse s _ _ _ _ hP
  · split
    · exact K.refuse s _ _ _ _ hP
    · next hnone =>
      split
      · exact K.startProgramme (tag_of_playRefusal hnone) hP
      · exact hP

theorem takeStop (ref : Byte) (args : List Byte) (s : State) (hP : P s) : P (takeStop ref args s) := by
  unfold Machine.takeStop
  (repeat' split) <;> first | exact K.refuse s _ _ _ _ hP | exact K.endProgrammes s _ _ hP

theorem takeWindowMap (ref : Byte) (args : List Byte) (s : State) (hP : P s) : P (takeWindowMap ref args s) := by
  unfold Machine.takeWindowMap
  split
  · exact K.refuse s _ _ _ _ hP
  · split
    · exact K.refuse s _ _ _ _ hP
    · rw [State.loadMap_last]
      have hheads : ∀ x ∈ s.abortAll.stopPool.pool.heads, x.run = none := by
        rw [State.stopPool_heads]
        intro x hx
        obtain ⟨y, _, rfl⟩ := List.mem_map.1 hx
        rfl
      exact K.su s.abortAll.stopPool (s.abortAll.stopPool.loadMap _).su rfl (.inr (.inr ⟨hheads, State.stopPool_queue _⟩))
        (K.stopPool _ (K.abortAll s hP))

theorem takePhrase (ref : Byte) (args : List Byte) (s : State) (hP : P s) : P (takePhrase ref args s) := by
  unfold Machine.takePhrase
  dsimp only
  (repeat' split) <;> first
    | exact K.refuse s _ _ _ _ hP
    | exact K.su s { s.su with directory := _ } rfl (.inr (.inl rfl)) hP

theorem takeDirectoryCheck (ref : Byte) (args : List Byte) (s : State) (hP : P s) :
    P (takeDirectoryCheck ref args s) := by
  unfold Machine.takeDirectoryCheck
  dsimp only
  (repeat' split) <;> first
    | exact K.refuse s _ _ _ _ hP
    | exact K.queueOrdinary _ _ (K.su s { s.su with directory := _, gate := .isOpen } rfl (.inl rfl) hP)

theorem takeHeadPlan (ref : Byte) (args : List Byte) (s : State) (hP : P s) : P (takeHeadPlan ref args s) := by
  unfold Machine.takeHeadPlan
  split
  · exact K.refuse s _ _ _ _ hP
  · exact K.plan s _ _ _ hP

theorem takeCaptureStart (ref : Byte) (args : List Byte) (s : State) (hP : P s) : P (takeCaptureStart ref args s) := by
  unfold Machine.takeCaptureStart
  (repeat' split) <;> first
    | exact K.refuse s _ _ _ _ hP
    | exact K.setCapture s _ _ (fun _ hx => by cases hx; rfl) hP

theorem takeCaptureStop (ref : Byte) (args : List Byte) (s : State) (hP : P s) : P (takeCaptureStop ref args s) := by
  unfold Machine.takeCaptureStop
  (repeat' split) <;> first | exact K.refuse s _ _ _ _ hP | exact K.stopCapture s _ hP

theorem takeQuery (n : Nat) (ref : Byte) (args : List Byte) (s : State) (hP : P s) : P (takeQuery n ref args s) := by
  unfold Machine.takeQuery
  (repeat' split) <;> exact K.queueOrdinary s _ hP

theorem takeBadQuery (ref : Byte) (args : List Byte) (s : State) (hP : P s) : P (takeBadQuery ref args s) := by
  unfold Machine.takeBadQuery
  split <;> exact K.refuse s _ _ _ _ hP

theorem takeUnknown (code ref : Byte) (s : State) (hP : P s) : P (takeUnknown code ref s) := K.refuse s _ _ _ _ hP

theorem takeBody (o : LossOrder) (body : List Byte) (s : State) (hP : P s) : P (takeBody o body s) := by
  unfold Machine.takeBody
  split
  · exact K.takeLanePlan _ _ _ s hP
  · exact K.takeSetSlots _ _ s hP
  · exact K.takeTone _ _ s hP
  · exact K.takeCadence _ _ s hP
  · exact K.takeTemplate _ _ s hP
  · exact K.takePlay _ _ s hP
  · exact K.takeStop _ _ s hP
  · exact K.takeWindowMap _ _ s hP
  · exact K.takePhrase _ _ s hP
  · exact K.takeDirectoryCheck _ _ s hP
  · exact K.takeHeadPlan _ _ s hP
  · exact K.takeCaptureStart _ _ s hP
  · exact K.takeCaptureStop _ _ s hP
  · exact K.takeQuery _ _ _ s hP
  · exact K.takeQuery _ _ _ s hP
  · exact K.takeQuery _ _ _ s hP
  · exact K.takeQuery _ _ _ s hP
  · exact K.takeQuery _ _ _ s hP
  · exact K.takeQuery _ _ _ s hP
  · exact K.takeUnknown _ _ s hP
  · exact hP
  · split
    · exact K.takeBadQuery _ _ s hP
    · exact hP

/-! ### What stands due -/

omit K in
theorem onDue {s : State} {due : Bool} {f : State → State} (hf : P (f s)) (hP : P s) : P (s.onDue due f) := by
  unfold State.onDue
  split
  · exact hf
  · exact hP

theorem dueTimedEnd (s : State) (k : Nat) (hP : P s) : P (s.dueTimedEnd k) :=
  onDue (K.modifyCtx s k _ (fun _ _ => ⟨rfl, rfl, rfl, rfl, rfl⟩) hP) hP

theorem dueGather (s : State) (h : Nat) (hP : P s) : P (s.dueGather h) := onDue (K.expireGather s h hP) hP

theorem dueLinger (s : State) (h : Nat) (hP : P s) : P (s.dueLinger h) := onDue (K.freeHead s h hP) hP

theorem dueWait (s : State) (k : Nat) (hP : P s) : P (s.dueWait k) := onDue (K.expireWait s k hP) hP

theorem duePhrase (s : State) (h : Nat) (hP : P s) : P (s.duePhrase h) := onDue (K.completeOn s h _ hP) hP

theorem dueLoop (s : State) (h : Nat) (hP : P s) : P (s.dueLoop h) := onDue (K.completeOn s h _ hP) hP

theorem dueVoice (s : State) (c : Nat) (hP : P s) : P (s.dueVoice c) := onDue (K.expireVoice s c hP) hP

theorem dueFull (s : State) (c : Nat) (hP : P s) : P (s.dueFull c) := onDue (K.endFull s c hP) hP

theorem dueSilence (s : State) (c : Nat) (hP : P s) : P (s.dueSilence c) := onDue (K.endSilence s c hP) hP

theorem dueCheck (s : State) (p : Nat) (hP : P s) : P (s.dueCheck p) := onDue (K.completeCheck s p hP) hP

theorem dueLoss (o : LossOrder) (s : State) (p : Nat) (hP : P s) : P (s.dueLoss o p) := onDue (K.endLane s o p hP) hP

theorem dueMismatch (o : LossOrder) (s : State) (p : Nat) (hP : P s) : P (s.dueMismatch o p) :=
  onDue (K.endLane s o p hP) hP

theorem dueRestart (s : State) (hP : P s) : P s.dueRestart := onDue (K.restart s hP) hP

theorem dueReport (s : State) (hP : P s) : P s.dueReport := onDue (K.report s none s.sender.hold hP) hP

theorem dueOrder (o : LossOrder) (s : State) (hP : P s) : P (s.dueOrder o) := by
  unfold State.dueOrder
  split
  · exact K.takeBody o _ _ (K.orders s { s.orders with due := none } hP)
  · exact hP

theorem settleLanes (s : State) (hP : P s) : P s.settleLanes :=
  foldl_inv P _ (fun s p hP => K.dueMismatch _ _ p (K.dueLoss _ _ p (K.dueCheck s p hP))) _ s hP

theorem settleTimers (s : State) (hP : P s) : P s.settleTimers :=
  foldl_inv P _ (fun s h => K.dueLinger s h) _ _ (foldl_inv P _ (fun s h => K.dueGather s h) _ s hP)

theorem settleEndings (s : State) (hP : P s) : P s.settleEndings :=
  K.settleTimers _ (foldl_inv P _ (fun s c hP => K.dueFull _ c (K.dueSilence _ c (K.dueVoice s c hP))) _ _
    (foldl_inv P _ (fun s h => K.dueLoop s h) _ _ (foldl_inv P _ (fun s h => K.duePhrase s h) _ _
      (foldl_inv P _ (fun s k => K.dueTimedEnd s k) _ _ (K.settleLanes s hP)))))

theorem settleWaits (s : State) (hP : P s) : P s.settleWaits := foldl_inv P _ (fun s k => K.dueWait s k) _ s hP

theorem settle (s : State) (hP : P s) : P s.settle :=
  K.dueReport _ (K.dueRestart _ (K.settleWaits _ (K.dueOrder _ _ (K.settleEndings s hP))))

theorem beforeOrder (s : State) (body : List Byte) (hP : P s) : P (s.beforeOrder body) := by
  unfold State.beforeOrder
  dsimp only
  split
  · exact K.orders _ _ (K.settleEndings s hP)
  · exact K.dueOrder _ _ (K.settleEndings s hP)

/-! ### The acts of a frame event -/

theorem offerByte (s : State) (mapped : Bool) (hP : P s) : P (s.offerByte mapped).1 := by
  unfold State.offerByte
  split
  · exact K.report s s.sender.transmission false hP
  · have hQ : P (if s.mayBegin && mapped then s.beginReport else s) := by
      split
      · exact K.beginReport s hP
      · exact hP
    dsimp only
    split
    · exact K.report _ _ (if s.mayBegin && mapped then s.beginReport else s).sender.hold hQ
    · exact hQ

theorem qualify (w : Work) (hP : P w.s) : P w.qualify.s := by
  unfold Work.qualify
  split
  · exact hP
  · refine K.rx w.s { w.s.rx.qualify (w.restartCondition w.s) with restarting := w.reachesRestart } (fun h => ?_) hP
    unfold LaneReceiver.qualify
    split <;> exact h

theorem workSlot (w : Work) (k : Nat) (hP : P w.s) : P (w.workSlot k).s := by
  unfold Work.workSlot
  split
  · exact hP
  · split
    · exact hP
    · have hQ := K.clearTodo w.s k hP
      dsimp only
      split
      · exact hQ
      · next c _ _ _ =>
        have hgo : P (if c.state = .pending then (w.s.modifyCtx k fun c => { c with todo := false }).goOnSlot true k
            else w.s.modifyCtx k fun c => { c with todo := false }) := by
          split
          · exact K.goOnSlot _ true k hQ
          · exact hQ
        split
        · exact hgo
        · next d hd =>
          refine K.setCtx hd ?_ hgo
          rw [State.counted_eq]
          exact ⟨rfl, rfl, rfl, rfl, rfl⟩

theorem headWork (w : Work) (h : Nat) (hP : P w.s) : P (w.headWork h).s := by
  unfold Work.headWork
  split
  · exact hP
  · next r hr =>
    split
    · exact K.countHead w.s h hP
    · split
      · exact K.countHead _ h (K.readHead hr hP)
      · exact hP

theorem workCapture {s : State} {c : Nat} {x : Capture} {b : Byte} {u : Bool} (hx : x.todo = false)
    (hwrite : x.writes b u = true → x.start + x.written < storeSize) (hP : P s) : P (s.workCapture c x b u) := by
  unfold Capture.writes at hwrite
  unfold State.workCapture
  split
  · next hphase => rw [hphase] at hwrite; exact K.writeByte (hwrite rfl) hx hP
  · next hphase =>
    rw [hphase] at hwrite
    split
    · next hloud => exact K.writeByte (hwrite hloud) hx hP
    · exact K.setCapture s c _ (fun _ hy => by cases hy; exact hx) hP

theorem capture (w : Work) (c : Nat) (hP : P w.s) : P (w.capture c).s := by
  unfold Work.capture
  split
  · exact hP
  · split
    · exact hP
    · split
      · exact hP
      · next x _ _ _ b u _ =>
        split
        · exact hP
        · next hplace =>
          refine K.workCapture rfl (fun hw => ?_) hP
          have hw' : x.writes b u = true := hw
          simpa [hw'] using hplace

theorem parse (w : Work) (hP : P w.s) : P w.parse.s := by
  unfold Work.parse
  split
  · exact hP
  · dsimp only
    split
    · exact hP
    · split
      · exact K.parseByte _ _ _ hP
      · exact hP

theorem restartAct (w : Work) (hP : P w.s) : P w.restart.s := by
  unfold Work.restart
  dsimp only
  split
  · exact K.restart _ (K.settleEndings _ (K.qualify w hP))
  · exact K.qualify w hP

theorem headWorks (l : List Nat) (w : Work) (hP : P w.s) : P (l.foldl Work.headWork w).s :=
  foldl_inv (fun w : Work => P w.s) Work.headWork (fun w h => K.headWork w h) l w hP

theorem waitExpiry (w : Work) (k : Nat) (hP : P w.s) : P (w.waitExpiry k).s := by
  have hQ := K.countWaits _ (K.dueOrder .plain _ (K.settleEndings _ (K.parse _ (K.headWorks (List.range 24) w hP))))
  unfold Work.waitExpiry
  dsimp only
  split <;> dsimp only
  · exact K.expireWait _ k hQ
  · exact hQ

/-- The contexts' work for a list of slots. -/
theorem workSlots (l : List Nat) (w : Work) (hP : P w.s) : P (l.foldl Work.workSlot w).s :=
  foldl_inv (fun w : Work => P w.s) Work.workSlot (fun w k => K.workSlot w k) l w hP

theorem act (w : Work) (a : Act) (hP : P w.s) : P (w.act a).s := by
  cases a with
  | qualify => exact K.qualify w hP
  | contexts below => exact K.workSlots _ w hP
  | headWork h => exact K.headWork w h hP
  | countWaits => exact K.countWaits w.s hP
  | capture c => exact K.capture w c hP
  | laneLoss p f o =>
    simp only [Work.act, Work.laneLoss]
    split
    · dsimp only
      exact K.endLane _ o p (K.settleEndings w.s hP)
    · exact hP
  | parse => exact K.parse w hP
  | takeOrder o =>
    simp only [Work.act]
    exact K.dueOrder o _ (K.settleEndings _ (K.parse w hP))
  | offerByte =>
    simp only [Work.act, Work.offer]
    split
    · exact hP
    · split
      · exact hP
      · exact K.offerByte w.s _ hP
  | restart => exact K.restartAct w hP
  | timedStepEnd k => exact K.dueTimedEnd w.s k hP
  | gatherExpiry h => exact K.dueGather w.s h hP
  | lingerExpiry h => exact K.dueLinger w.s h hP
  | waitExpiry k => exact K.waitExpiry w k hP
  | phraseComplete h => exact K.duePhrase w.s h hP
  | loopComplete h => exact K.dueLoop w.s h hP
  | voiceExpiry c => exact K.dueVoice w.s c hP
  | captureFull c => exact K.dueFull w.s c hP
  | captureSilence c => exact K.dueSilence w.s c hP

theorem acts (as : List Act) (w : Work) (hP : P w.s) : P (as.foldl Work.act w).s :=
  foldl_inv (fun w : Work => P w.s) Work.act (fun w a => K.act w a) as w hP

end KeptInFrame

/-! ### Every command -/

/-- The elementary updates keep `P`, and so do the arrival and the end of a frame event and the release of the reset. -/
structure Kept (P : State → Prop) : Prop extends KeptInFrame P where
  tx : ∀ s x, P s → P { s with tx := x } := by intros; assumption
  arriveFrame : ∀ s, P s → P s.arriveFrame := by intros; assumption
  powerOn : ∀ s, P s → P s.powerOn := by intros; assumption

namespace Kept

variable {P : State → Prop} (K : Kept P)
include K

theorem finish (w : Work) (hP : P w.s) : P w.finish := K.tx w.s _ hP

theorem runFrame {as : List Act} {s t : State} (h : runFrame as s = .next t) (hP : P s) : P t := by
  unfold Machine.runFrame at h
  dsimp only at h
  split at h
  · cases h
  · exact Host.Outcome.next.inj h ▸ K.finish _ (K.acts _ (Work.start s) (K.arriveFrame s hP))

theorem dueFrame {as : List Act} {s t : State} (h : s.dueFrame as = .next t) (hP : P s) : P t := by
  unfold State.dueFrame at h
  split at h
  · exact K.runFrame h (K.settle s hP)
  · exact Host.Outcome.next.inj h ▸ K.settle s hP

theorem takeMessage {s t : State} {body : List Byte} {take : State → State} (htake : ∀ s, P s → P (take s))
    (h : s.takeMessage body take = .next t) (hP : P s) : P t := by
  obtain ⟨u, hu, rfl⟩ := State.takeMessage_cases h
  refine htake _ (K.beforeOrder u body ?_)
  rcases hu with ⟨_, hu⟩ | ⟨_, rfl⟩
  · exact K.dueFrame hu hP
  · exact hP

theorem laneFrameArrival {p : Nat} {f : LaneFrame} {late : Bool} {s t : State}
    (h : execLaneFrameArrival p f late s = .next t) (hP : P s) : P t := by
  unfold execLaneFrameArrival at h
  split at h
  · dsimp only at h
    split at h
    · split at h
      · next hu =>
        exact Host.Outcome.next.inj h ▸ K.arriveOn _ p f late (K.settle _ (K.runFrame hu (K.settle s hP)))
      · cases h
      · cases h
    · exact Host.Outcome.next.inj h ▸ K.arriveOn _ p f late (K.settle s hP)
  · cases h

theorem exec {i : Instr} {s t : State} (h : exec i s = .next t) (hP : P s) : P t := by
  cases i with
  | powerOn => exact Host.Outcome.next.inj h ▸ K.powerOn s hP
  | huntByteArrival p b =>
    simp only [Machine.exec, execHuntByteArrival] at h
    split at h
    · exact Host.Outcome.next.inj h ▸ K.modifyLane (fun x => x.within_huntByte b) (K.settle s hP)
    · cases h
  | laneFrameArrival p f late =>
    simp only [Machine.exec] at h
    exact K.laneFrameArrival h hP
  | checkComplete p =>
    rw [exec_checkComplete] at h
    exact Host.Outcome.next.inj h ▸ K.dueCheck s p hP
  | laneLoss p o =>
    rw [exec_laneLoss] at h
    exact Host.Outcome.next.inj h ▸ K.dueLoss o s p hP
  | mismatchLaneLoss p o =>
    rw [exec_mismatchLaneLoss] at h
    exact Host.Outcome.next.inj h ▸ K.dueMismatch o s p hP
  | timedStepEnd k =>
    rw [exec_timedStepEnd] at h
    exact Host.Outcome.next.inj h ▸ K.dueTimedEnd s k hP
  | gatherTimerExpiry k =>
    rw [exec_gatherTimerExpiry] at h
    exact Host.Outcome.next.inj h ▸ K.dueGather s k hP
  | lingerTimerExpiry k =>
    rw [exec_lingerTimerExpiry] at h
    exact Host.Outcome.next.inj h ▸ K.dueLinger s k hP
  | waitTimerExpiry k =>
    rw [exec_waitTimerExpiry] at h
    exact Host.Outcome.next.inj h ▸ K.dueWait _ k (K.dueOrder _ _ (K.settleEndings s hP))
  | phraseComplete k =>
    rw [exec_phraseComplete] at h
    exact Host.Outcome.next.inj h ▸ K.duePhrase s k hP
  | loopCyclesComplete k =>
    rw [exec_loopCyclesComplete] at h
    exact Host.Outcome.next.inj h ▸ K.dueLoop s k hP
  | voiceTimerExpiry c =>
    rw [exec_voiceTimerExpiry] at h
    exact Host.Outcome.next.inj h ▸ K.dueVoice s c hP
  | captureFull c =>
    rw [exec_captureFull] at h
    exact Host.Outcome.next.inj h ▸ K.dueFull s c hP
  | captureSilence c =>
    rw [exec_captureSilence] at h
    exact Host.Outcome.next.inj h ▸ K.dueSilence s c hP
  | reportComplete =>
    rw [exec_reportComplete] at h
    exact Host.Outcome.next.inj h ▸ K.dueReport s hP
  | frameEvent schedule =>
    rw [exec_frameEvent] at h
    exact K.dueFrame h hP
  | restart =>
    simp only [Machine.exec, execRestart] at h
    refine Host.Outcome.next.inj h ▸ ?_
    split
    · exact K.restart _ (K.settleEndings s hP)
    · exact hP
  | reportBegin =>
    simp only [Machine.exec, execReportBegin] at h
    refine Host.Outcome.next.inj h ▸ ?_
    split
    · exact K.beginReport _ (K.settle s hP)
    · exact K.settle s hP
  | unknownOrder code ref args =>
    simp only [Machine.exec, execUnknownOrder] at h
    split at h
    · cases h
    · exact K.takeMessage (K.takeUnknown code ref) h hP
  | lanePlan ref args o =>
    rw [exec_lanePlan] at h
    exact K.takeMessage (K.takeLanePlan ref args o) h hP
  | setSlots ref args =>
    rw [exec_setSlots] at h
    exact K.takeMessage (K.takeSetSlots ref args) h hP
  | tone ref args =>
    rw [exec_tone] at h
    exact K.takeMessage (K.takeTone ref args) h hP
  | cadence ref args =>
    rw [exec_cadence] at h
    exact K.takeMessage (K.takeCadence ref args) h hP
  | template ref args =>
    rw [exec_template] at h
    exact K.takeMessage (K.takeTemplate ref args) h hP
  | play ref args =>
    rw [exec_play] at h
    exact K.takeMessage (K.takePlay ref args) h hP
  | stop ref args =>
    rw [exec_stop] at h
    exact K.takeMessage (K.takeStop ref args) h hP
  | windowMap ref args =>
    rw [exec_windowMap] at h
    exact K.takeMessage (K.takeWindowMap ref args) h hP
  | phrase ref args =>
    rw [exec_phrase] at h
    exact K.takeMessage (K.takePhrase ref args) h hP
  | directoryCheck ref args =>
    rw [exec_directoryCheck] at h
    exact K.takeMessage (K.takeDirectoryCheck ref args) h hP
  | headPlan ref args =>
    rw [exec_headPlan] at h
    exact K.takeMessage (K.takeHeadPlan ref args) h hP
  | captureStart ref args =>
    rw [exec_captureStart] at h
    exact K.takeMessage (K.takeCaptureStart ref args) h hP
  | captureStop ref args =>
    rw [exec_captureStop] at h
    exact K.takeMessage (K.takeCaptureStop ref args) h hP
  | querySlot ref args =>
    rw [exec_querySlot] at h
    exact K.takeMessage (K.takeQuery 0 ref args) h hP
  | queryHead ref args =>
    rw [exec_queryHead] at h
    exact K.takeMessage (K.takeQuery 1 ref args) h hP
  | queryCapture ref args =>
    rw [exec_queryCapture] at h
    exact K.takeMessage (K.takeQuery 2 ref args) h hP
  | queryTone ref args =>
    rw [exec_queryTone] at h
    exact K.takeMessage (K.takeQuery 3 ref args) h hP
  | queryPhrase ref args =>
    rw [exec_queryPhrase] at h
    exact K.takeMessage (K.takeQuery 4 ref args) h hP
  | querySummary ref args =>
    rw [exec_querySummary] at h
    exact K.takeMessage (K.takeQuery 5 ref args) h hP

theorem step (hpending : ∀ s rest, P s → P { s with pending := rest }) {s t : State} (h : step s = .next t)
    (hP : P s) : P t := by
  unfold Machine.step at h
  split at h
  · exact K.exec h (hpending s _ hP)
  · exact Host.Outcome.next.inj h ▸ K.settle s hP

end Kept

end Sys2Proof.Machine

/-! PROOF. The order channel: bodies and the commands they spell, an order's command as the taking of its message, and the
parser. -/

namespace Sys2Proof.Machine

/-! ### Bodies -/

/-- The loss order a command is given; a body does not carry it (section 12.2). -/
def Instr.lossOrder : Instr → LossOrder
  | .lanePlan _ _ o => o
  | _ => .plain

/-- Every body is read back as the command it was written for, but for a code that names an order. -/
theorem decodeBody_encodeBody {i : Instr} {body : List Byte} {o : LossOrder} (h : encodeBody i = some body)
    (ho : ∀ ref args p, i = .lanePlan ref args p → p = o)
    (hcode : ∀ code ref args, i = .unknownOrder code ref args → code ∉ OrderCode.all) :
    decodeBody o body = some i := by
  cases i with
  | lanePlan ref args p => cases h; cases ho ref args p rfl; rfl
  | unknownOrder code ref args =>
    cases h
    have hno := hcode code ref args rfl
    simp only [OrderCode.all, List.mem_cons, List.not_mem_nil, or_false, not_or] at hno
    simp [decodeBody, hno]
  | setSlots | tone | cadence | template | play | stop | windowMap | phrase | directoryCheck | headPlan | captureStart
  | captureStop | querySlot | queryHead | queryCapture | queryTone | queryPhrase | querySummary => cases h; rfl
  | _ => cases h

/-- One place of a decoder's chain: it reads the command, or a later place does. -/
theorem eq_some_of_ite {p : Prop} [Decidable p] {i j : Instr} {rest : Option Instr}
    (h : (if p then some i else rest) = some j) : (p ∧ i = j) ∨ (¬ p ∧ rest = some j) := by
  by_cases hp : p
  · rw [if_pos hp] at h; exact .inl ⟨hp, Option.some.inj h⟩
  · rw [if_neg hp] at h; exact .inr ⟨hp, h⟩

theorem encodeBody_decodeQuery {ref : Byte} {args : List Byte} {i : Instr} (h : decodeQuery ref args = some i) :
    encodeBody i = some (OrderCode.query :: ref :: args) := by
  unfold decodeQuery at h
  split at h
  · cases h
  · iterate 6
      obtain ⟨rfl, rfl⟩ | ⟨-, h⟩ := eq_some_of_ite h
      · rfl
    cases h

theorem encodeBody_decodeBody {o : LossOrder} {body : List Byte} {i : Instr} (h : decodeBody o body = some i) :
    encodeBody i = some body := by
  unfold decodeBody at h
  split at h
  · next code ref args =>
    iterate 13
      obtain ⟨rfl, rfl⟩ | ⟨-, h⟩ := eq_some_of_ite h
      · rfl
    by_cases hq : code = OrderCode.query
    · subst hq
      exact encodeBody_decodeQuery h
    · rw [if_neg hq] at h
      cases h
      rfl
  · cases h

theorem not_mem_all_of_wf {i : Instr} (h : i.wf = true) :
    ∀ code ref args, i = .unknownOrder code ref args → code ∉ OrderCode.all := by
  rintro code ref args rfl
  simp only [Instr.wf, Bool.and_eq_true, Bool.not_eq_true', List.contains_eq_mem, decide_eq_false_iff_not] at h
  exact h.2

/-- Settles O12, code by code. -/
theorem orderBodiesRoundTrip : Obligations.OrderBodiesRoundTrip :=
  ⟨fun _ _ _ hwf henc ho => decodeBody_encodeBody henc ho (not_mem_all_of_wf hwf),
    fun _ _ _ hdec => encodeBody_decodeBody hdec⟩

/-! ### An order's command takes its message -/

/-- The command of an order is the taking of its message. -/
theorem exec_of_encodeBody {i : Instr} {body : List Byte} {o : LossOrder} (h : encodeBody i = some body)
    (ho : ∀ ref args p, i = .lanePlan ref args p → p = o)
    (hcode : ∀ code ref args, i = .unknownOrder code ref args → code ∉ OrderCode.all) (s : State) :
    exec i s = s.takeMessage body (takeBody o body) := by
  have hdec := decodeBody_encodeBody h ho hcode
  cases i with
  | unknownOrder code ref args =>
    cases h
    have hno : OrderCode.all.contains code = false := by simpa using hcode code ref args rfl
    simp only [exec, execUnknownOrder, hno, State.takeMessage, takeBody, hdec]
    rfl
  | lanePlan | setSlots | tone | cadence | template | play | stop | windowMap | phrase | directoryCheck | headPlan
  | captureStart | captureStop | querySlot | queryHead | queryCapture | queryTone | queryPhrase | querySummary =>
    cases h
    simp only [State.takeMessage, takeBody, hdec]
    rfl
  | _ => cases h

/-- An order whose command answers a next state has taken its message. -/
theorem takeMessage_of_exec {i : Instr} {body : List Byte} {s t : State} (henc : encodeBody i = some body)
    (h : exec i s = .next t) : ∃ o, s.takeMessage body (takeBody o body) = .next t := by
  refine ⟨Instr.lossOrder i, ?_⟩
  rw [← exec_of_encodeBody henc (by rintro ref args p rfl; rfl) ?_ s]
  · exact h
  · rintro code ref args rfl hmem
    have hall : OrderCode.all.contains code = true := by simpa using hmem
    simp only [exec, execUnknownOrder, hall] at h
    cases h

/-! ### The parser (R141 to R146) -/

theorem State.hear_append (s : State) (as bs : List Byte) : s.hear (as ++ bs) = (s.hear as).hear bs :=
  List.foldl_append ..

theorem State.hear_cons (s : State) (b : Byte) (bs : List Byte) : s.hear (b :: bs) = (s.parseByte b false).hear bs := rfl

theorem State.parseByte_length {s : State} {b : Byte} (hlo : 2 ≤ b.toNat) (hhi : b.toNat ≤ 72) :
    (s.setParser .length).parseByte b false = s.setParser (.body b.toNat [] b.toNat) := by
  simp only [State.parseByte, State.setParser_parser, Bool.false_eq_true, if_false, hlo, hhi, and_self, if_true]
  rfl

theorem State.parseByte_body (s : State) (len sum : Nat) (bytes : List Byte) (b : Byte) :
    (s.setParser (.body len bytes sum)).parseByte b false = s.setParser
      (if (bytes ++ [b]).length = len then .check len (bytes ++ [b]) ((sum + b.toNat) % 256)
       else .body len (bytes ++ [b]) ((sum + b.toNat) % 256)) := by
  simp only [State.parseByte, State.setParser_parser, Bool.false_eq_true, if_false]
  rfl

theorem State.parseByte_check {s : State} {len sum : Nat} {bytes : List Byte} {b : Byte}
    (h : (sum + b.toNat) % 256 = 0) : (s.setParser (.check len bytes sum)).parseByte b false =
      { s with orders := { parser := .hunt, due := some bytes } } := by
  simp only [State.parseByte, State.setParser_parser, Bool.false_eq_true, if_false, h, if_true]
  rfl

/-- The bytes of a body are collected, and summed modulo 256 (R144). -/
theorem State.hear_body {s : State} {len : Nat} {rest : List Byte} (hne : rest ≠ []) {bytes : List Byte} {sum : Nat}
    (hlen : bytes.length + rest.length = len) : (s.setParser (.body len bytes sum)).hear rest =
      s.setParser (.check len (bytes ++ rest) ((sum + (rest.map BitVec.toNat).sum) % 256)) := by
  induction rest generalizing bytes sum with
  | nil => exact absurd rfl hne
  | cons b rest ih =>
    rw [State.hear_cons, State.parseByte_body]
    simp only [List.length_cons] at hlen
    rcases rest with _ | ⟨c, rest⟩
    · rw [if_pos (by simpa using hlen)]
      simp [State.hear]
    · rw [if_neg (by simp at hlen ⊢; omega), ih (List.cons_ne_nil c rest) (by simp at hlen ⊢; omega)]
      simp only [List.append_assoc, List.singleton_append, List.map_cons, List.sum_cons]
      congr 2
      omega

theorem checkByte_sum (body : List Byte) : (bodySum body + (checkByte body).toNat) % 256 = 0 := by
  simp only [checkByte, BitVec.toNat_ofNat]
  omega

/-- A whole message leaves its body complete (R143 to R145). -/
theorem State.hear_messageOf {s : State} {body : List Byte} (hhunt : s.orders.parser = .hunt) (hlo : 2 ≤ body.length)
    (hhi : body.length ≤ 72) :
    s.hear (messageOf body) = { s with orders := { parser := .hunt, due := some body } } := by
  have hlen : (BitVec.ofNat 8 body.length).toNat = body.length := by
    rw [BitVec.toNat_ofNat]; exact Nat.mod_eq_of_lt (by omega)
  have hstart : s.parseByte startByte false = s.setParser .length := by
    simp [State.parseByte, hhunt]
  have hcheck : ((body.length + (body.map BitVec.toNat).sum) % 256 + (checkByte body).toNat) % 256 = 0 := by
    rw [Nat.mod_add_mod]; exact checkByte_sum body
  rw [messageOf, State.hear_cons, hstart, State.hear_cons, State.parseByte_length (by omega) (by omega), hlen,
    State.hear_append, State.hear_body (by rintro rfl; simp at hlo) (by simp), List.nil_append, State.hear_cons,
    State.parseByte_check hcheck]
  rfl

/-- Settles O13, by the parser's four states. -/
theorem parserCompletesMessage : Obligations.ParserCompletesMessage :=
  fun _ body hhunt hlo hhi => ⟨State.hear_messageOf hhunt hlo hhi, checkByte_sum body⟩

theorem length_of_encodeBody {i : Instr} {body : List Byte} (hwf : i.wf = true) (h : encodeBody i = some body) :
    2 ≤ body.length ∧ body.length ≤ 72 := by
  cases i with
  | unknownOrder code ref args =>
    cases h
    simp only [Instr.wf, argsWf, Bool.and_eq_true, decide_eq_true_eq] at hwf
    simp only [List.length_cons]
    omega
  | lanePlan | setSlots | tone | cadence | template | play | stop | windowMap | phrase | directoryCheck | headPlan
  | captureStart | captureStop | querySlot | queryHead | queryCapture | queryTone | queryPhrase | querySummary =>
    cases h
    simp only [Instr.wf, argsWf, queryArgsWf, decide_eq_true_eq] at hwf
    simp only [List.length_cons]
    omega
  | _ => cases h

/-- Settles O14: the command takes its body as it stands, and so does the parser's completed message. -/
theorem messageIsItsCommand : Obligations.MessageIsItsCommand := by
  intro i body o s hwf henc ho hready hhunt
  obtain ⟨hlo, hhi⟩ := length_of_encodeBody hwf henc
  have hdue : s.orders = { parser := .hunt, due := none } := by
    have hworked := State.worked_of_ready hready
    simp only [State.worked, Bool.and_eq_true, Option.isNone_iff_eq_none] at hworked
    rw [← hhunt, ← hworked.2]
  rw [exec_of_encodeBody henc ho (not_mem_all_of_wf hwf), State.takeMessage_of_ready hready,
    State.hear_messageOf hhunt hlo hhi]
  simp only [State.dueOrder]
  rw [← hdue]

theorem State.parseByte_suspect {s : State} (h : s.orders.parser ≠ .hunt) (b : Byte) :
    s.parseByte b true = s.garble 2 := by
  unfold State.parseByte
  split
  · next hh => exact absurd hh h
  · rfl
  · rfl
  · rfl

/-- Settles O15, parser state by parser state. -/
theorem parserRefusesGarbled : Obligations.ParserRefusesGarbled := by
  intro s b suspect
  refine ⟨fun hp hb => ?_, fun hp hs => ?_, fun hp hs hb => ?_, fun len bytes sum hp hs hb => ?_⟩
  · have hno : (!suspect && b == startByte) = false := by
      rcases hb with rfl | hb
      · rfl
      · have hne : (b == startByte) = false := beq_eq_false_iff_ne.2 hb
        simp [hne]
    simp [State.parseByte, hp, hno]
  · subst hs
    exact State.parseByte_suspect hp b
  · subst hs
    have hno : ¬ (2 ≤ b.toNat ∧ b.toNat ≤ 72) := by omega
    simp only [State.parseByte, hp, Bool.false_eq_true, if_false, hno]
    rfl
  · subst hs
    simp only [State.parseByte, hp, Bool.false_eq_true, if_false, hb]
    rfl

/-- A QUERY whose subject is missing or unknown is refused by its length (R149, R152). -/
theorem takeBody_bad_query {ref : Byte} {args : List Byte} (o : LossOrder) (s : State)
    (h : decodeQuery ref args = none) : takeBody o (OrderCode.query :: ref :: args) s = takeBadQuery ref args s := by
  have hdec : decodeBody o (OrderCode.query :: ref :: args) = none := h
  simp only [takeBody, hdec]

/-- Settles O16. -/
theorem unknownOrdersAreRefused : Obligations.UnknownOrdersAreRefused := by
  intro s o code ref args
  refine ⟨fun hready hcode => ?_, fun hcode => ?_, fun hquery => ?_⟩
  · have hno : OrderCode.all.contains code = false := by simpa using hcode
    simp only [exec, execUnknownOrder, hno, State.takeMessage_of_ready hready]
    rfl
  · have hall : OrderCode.all.contains code = true := by simpa using hcode
    simp only [exec, execUnknownOrder, hall, if_true]
  · refine (takeBody_bad_query o s hquery).trans ?_
    by_cases hlen : args.length = 3 <;> simp [takeBadQuery, lengthIs, bodyLength, hlen] <;> rfl

end Sys2Proof.Machine

/-! PROOF. The laws every step keeps, each from what the elementary updates do to it: O2, O3 and O6 to O11, and the reset
state that meets them (O5). -/

namespace Sys2Proof.Machine

/-! ### The queue of commands and the store -/

theorem State.ground_setHeadRun (s : State) (h : Nat) (r : Option HeadRun) : (s.setHeadRun h r).ground = s.ground := rfl

theorem State.ground_setQueue (s : State) (q : List Waiter) : (s.setQueue q).ground = s.ground :=
  State.ground_of_backdrop (s.backdrop_setQueue q)

/-- A property of the ground is kept by the Sequencer and the Head Pool. -/
theorem keptByPool_ground (P : List Host.Cell × LaneTransmitter × List Instr → Prop) :
    KeptByPool fun s => P s.ground where
  setQueue s q _ hP := by rwa [State.ground_setQueue]
  queueOrdinary s n hP := by rwa [State.ground_queueOrdinary]

theorem kept_pending (q : List Instr) : Kept fun s => s.pending = q where
  toKeptByPool := keptByPool_ground fun g => g.2.2 = q
  beginReport s hP := (State.pending_of_ground s.ground_beginReport).trans hP

/-- Settles O2: no elementary update touches the queue of commands. -/
theorem execLeavesQueue : Obligations.ExecLeavesQueue :=
  fun _ s _ h => (kept_pending s.pending).exec h rfl

theorem kept_storeLaw : Kept State.storeLaw where
  toKeptByPool := keptByPool_ground fun g => Memory.wf g.1 = true
  su s u hstore _ hP := by unfold State.storeLaw at hP ⊢; rwa [hstore]
  store _ _ _ ha hP := Memory.wf_storeWrite ha hP
  beginReport s hP := by
    unfold State.storeLaw at hP ⊢
    rwa [State.store_of_ground s.ground_beginReport]

/-- Settles O6: the only elementary update that writes the store is a write inside it. -/
theorem stepKeepsStoreCanonical : Obligations.StepKeepsStoreCanonical :=
  fun _ _ hs h => kept_storeLaw.step (fun _ _ hP => hP) h hs

/-- An order or query taken where no frame event is under way leaves the store. -/
theorem State.store_takeMessage {s t : State} {body : List Byte} {take : State → State}
    (htake : ∀ u : State, (take u).ground = u.ground) (hb : s.frameBegun = false)
    (h : s.takeMessage body take = .next t) : t.su.store = s.su.store := by
  obtain ⟨u, ⟨hu, _⟩ | ⟨_, rfl⟩, rfl⟩ := State.takeMessage_cases h
  · rw [hb] at hu; cases hu
  · exact State.store_of_ground ((htake _).trans (u.ground_beforeOrder body))

/-- Settles O3: outside a frame event every operation leaves the ground as it is. -/
theorem onlyFrameEventsWriteTheStore : Obligations.OnlyFrameEventsWriteTheStore := by
  intro i s t h hframe harrive horder a
  suffices hstore : t.su.store = s.su.store by rw [hstore]
  have ofGround : ∀ {u : State}, u.ground = s.ground →
      (.next u : Host.Outcome State Fault Refusal) = .next t → t.su.store = s.su.store := by
    intro u hu he
    exact Host.Outcome.next.inj he ▸ State.store_of_ground hu
  cases henc : encodeBody i with
  | some body =>
    obtain ⟨o, h⟩ := takeMessage_of_exec henc h
    exact State.store_takeMessage (takeBody_ground o body) (horder (by rw [henc]; rfl)) h
  | none =>
    cases i with
    | powerOn => exact Host.Outcome.next.inj h ▸ rfl
    | huntByteArrival p b =>
      simp only [exec, execHuntByteArrival] at h
      split at h
      · exact ofGround (by simp) h
      · cases h
    | laneFrameArrival p f late =>
      obtain ⟨hdue, hquiet⟩ := harrive p f late rfl
      simp only [exec, execLaneFrameArrival, State.settle_of_quiet hquiet] at h
      split at h
      · rw [if_neg (by simp [State.frameBegun, hdue])] at h
        exact ofGround (by simp) h
      · cases h
    | checkComplete p => exact ofGround (by simp) h
    | laneLoss p o => exact ofGround (by simp) h
    | mismatchLaneLoss p o => exact ofGround (by simp) h
    | timedStepEnd k => exact ofGround (by simp) h
    | gatherTimerExpiry k => exact ofGround (by simp) h
    | lingerTimerExpiry k => exact ofGround (by simp) h
    | waitTimerExpiry k => exact ofGround (by simp) h
    | phraseComplete k => exact ofGround (by simp) h
    | loopCyclesComplete k => exact ofGround (by simp) h
    | voiceTimerExpiry c => exact ofGround (by simp) h
    | captureFull c => exact ofGround (by simp) h
    | captureSilence c => exact ofGround (by simp) h
    | reportComplete => exact ofGround (by simp) h
    | frameEvent schedule => exact absurd rfl (hframe schedule)
    | restart =>
      simp only [exec, execRestart] at h
      exact ofGround (by split <;> simp) h
    | reportBegin =>
      simp only [exec, execReportBegin] at h
      exact ofGround (by split <;> simp) h
    | _ => cases henc

/-! ### The lane map -/

/-- A property of the Lane Receiver is kept by the Sequencer and the Head Pool. -/
theorem keptByPool_rx (P : LaneReceiver → Prop) : KeptByPool fun s => P s.rx where
  setQueue s q _ hP := by rwa [State.setQueue_rx]
  queueOrdinary s n hP := by rwa [State.queueOrdinary_rx]

@[simp] theorem State.beginReport_rx (s : State) : s.beginReport.rx = s.rx := by
  unfold State.beginReport; (repeat' split) <;> rfl

theorem reset_laneLaw : State.reset.laneLaw := by
  have hhunt : ∀ p x, State.reset.lane p = some x → x.align = .hunt := fun p x hx => by
    rw [List.eq_of_mem_replicate (List.mem_of_getElem? hx)]; rfl
  exact ⟨fun p _ x hx ha => (by cases (hhunt p x hx).symm.trans ha),
    fun p _ q _ x y hx _ ha _ _ => (by cases (hhunt p x hx).symm.trans ha)⟩

theorem kept_laneLaw : Kept State.laneLaw where
  toKeptByPool := keptByPool_rx LaneReceiver.Lawful
  rx _ _ h hP := h hP
  beginReport s hP := by rwa [State.laneLaw_iff, State.beginReport_rx]
  restart _ hP := LaneReceiver.Lawful.map (f := fun x => { x with slips := 0 }) (fun _ h => ⟨h, rfl⟩) hP
  arriveFrame _ hP := LaneReceiver.Lawful.map Lane.within_take hP
  powerOn _ _ := reset_laneLaw

/-- Settles O7: a lane becomes ALIGNED where its identity is below the width and unheld, and at no other place. -/
theorem stepKeepsLaneLaw : Obligations.StepKeepsLaneLaw :=
  fun _ _ hs h => kept_laneLaw.step (fun _ _ hP => hP) h hs

/-! ### Tags -/

/-- R71 holds after an act that leaves each live context under its slot with its tag, or ends it. -/
theorem State.tagLaw_of_tags {s t : State} (h : ∀ j y, t.ctx j = some y → ∃ x, s.ctx j = some x ∧ x.tag = y.tag)
    (hs : s.tagLaw) : t.tagLaw := by
  intro j hj k hk x y hx hy htag hne
  obtain ⟨x', hx', hxt⟩ := h j x hx
  obtain ⟨y', hy', hyt⟩ := h k y hy
  exact hs j hj k hk x' y' hx' hy' (hxt.trans (htag.trans hyt.symm)) (hxt ▸ hne)

theorem State.tagLaw_congr {s t : State} (h : t.seq.contexts = s.seq.contexts) (hs : s.tagLaw) : t.tagLaw :=
  State.tagLaw_of_tags (fun j y hy => ⟨y, (State.ctx_congr h j).symm.trans hy, rfl⟩) hs

theorem State.tagLaw_modifyCtx {s : State} {k : Nat} {f : Ctx → Ctx}
    (hf : ∀ c, s.ctx k = some c → (f c).tag = c.tag) (hs : s.tagLaw) : (s.modifyCtx k f).tagLaw := by
  refine State.tagLaw_of_tags (fun j y hy => ?_) hs
  rw [State.ctx_modifyCtx] at hy
  split at hy
  · next hj =>
    obtain ⟨x, hx, rfl⟩ := Option.map_eq_some_iff.1 hy
    exact ⟨x, hj ▸ hx, (hf x hx).symm⟩
  · exact ⟨y, hy, rfl⟩

theorem State.tagLaw_bindCtx {s : State} {k : Nat} {c : Ctx}
    (hc : ∀ j < 128, j ≠ k → ∀ x, s.ctx j = some x → x.tag = c.tag → c.tag = none) (hs : s.tagLaw) :
    (s.setCtx k (some c)).tagLaw := by
  have hread : ∀ j x, (s.setCtx k (some c)).ctx j = some x → (j = k ∧ x = c) ∨ (j ≠ k ∧ s.ctx j = some x) := by
    intro j x hx
    by_cases hj : j = k
    · subst hj; exact .inl ⟨rfl, State.ctx_setCtx_some hx⟩
    · exact .inr ⟨hj, (State.ctx_setCtx_ne hj).symm.trans hx⟩
  intro i hi j hj x y hx hy htag hne
  rcases hread i x hx with ⟨hik, rfl⟩ | ⟨hik, hx'⟩ <;> rcases hread j y hy with ⟨hjk, rfl⟩ | ⟨hjk, hy'⟩
  · exact hik.trans hjk.symm
  · exact absurd (hc j hj hjk y hy' htag.symm) hne
  · exact absurd (htag.trans (hc i hi hik x hx' htag)) hne
  · exact hs i hi j hj x y hx' hy' htag hne

theorem State.ctx_of_none {s : State} (h : ∀ o ∈ s.seq.contexts, o = none) (k : Nat) : s.ctx k = none := by
  cases hk : s.ctx k with
  | none => rfl
  | some c => cases h _ (List.mem_of_getElem? (State.getElem?_of_ctx hk))

theorem State.tagLaw_of_none {s : State} (h : ∀ o ∈ s.seq.contexts, o = none) : s.tagLaw :=
  fun j _ _ _ x _ hx => by rw [State.ctx_of_none h j] at hx; cases hx

theorem reset_tagLaw : State.reset.tagLaw := State.tagLaw_of_none fun _ ho => List.eq_of_mem_replicate ho

@[simp] theorem State.ctx_arriveFrame (s : State) (k : Nat) : s.arriveFrame.ctx k = (s.ctx k).map Ctx.mark0 := by
  simp only [State.ctx_eq, State.arriveFrame, List.getElem?_map]
  cases s.seq.contexts[k]? <;> rfl

@[simp] theorem State.beginReport_seq (s : State) : s.beginReport.seq = s.seq := by
  unfold State.beginReport; (repeat' split) <;> rfl

theorem kept_tagLaw : Kept State.tagLaw where
  modifyCtx _ _ _ hf hP := State.tagLaw_modifyCtx (fun c hc => (hf c hc).tag) hP
  setQueue s q _ hP := State.tagLaw_congr (by simp) hP
  queueOrdinary s n hP := State.tagLaw_congr (by simp) hP
  clearTodo _ _ hP := State.tagLaw_modifyCtx (fun _ _ => rfl) hP
  freeCtx s k hP := State.tagLaw_of_tags (fun j y hy => by
    rw [State.ctx_setCtx_none] at hy
    split at hy
    · cases hy
    · exact ⟨y, hy, rfl⟩) hP
  bindCtx _ _ _ hc _ hP := State.tagLaw_bindCtx hc hP
  beginReport s hP := State.tagLaw_congr (by simp) hP
  restart _ _ := State.tagLaw_of_none fun o ho => by
    obtain ⟨_, _, rfl⟩ := List.mem_map.1 ho
    rfl
  arriveFrame s hP := State.tagLaw_of_tags (fun j y hy => by
    rw [State.ctx_arriveFrame] at hy
    obtain ⟨x, hx, rfl⟩ := Option.map_eq_some_iff.1 hy
    exact ⟨x, hx, rfl⟩) hP
  powerOn _ _ := reset_tagLaw

/-- Settles O8: a context is bound only with a tag that no other live context holds. -/
theorem stepKeepsTagsDistinct : Obligations.StepKeepsTagsDistinct :=
  fun _ _ hs h => kept_tagLaw.step (fun _ _ hP => hP) h hs

/-! ### The gate -/

theorem State.mem_heads_of_headRun {s : State} {h : Nat} {r : HeadRun} (hr : s.headRun h = some r) :
    ∃ x ∈ s.pool.heads, x.run = some r := by
  have hl := State.lt_of_headRun hr
  refine ⟨s.pool.heads[h], List.getElem_mem hl, ?_⟩
  rw [State.headRun, State.head_eq, List.getElem?_eq_getElem hl] at hr
  exact hr

/-- Where the gate is not OPEN no head holds anything, by the law. -/
theorem State.gateLaw.headRun {s : State} (h : s.gateLaw) (hg : s.su.gate ≠ .isOpen) (k : Nat) : s.headRun k = none := by
  cases hr : s.headRun k with
  | none => rfl
  | some r =>
    obtain ⟨x, hx, hxr⟩ := State.mem_heads_of_headRun hr
    rw [(h hg).1 x hx] at hxr
    cases hxr

theorem State.gateLaw_of_rest {s : State} (hh : ∀ x ∈ s.pool.heads, x.run = none) (hq : s.pool.queue = []) :
    s.gateLaw := fun _ => ⟨hh, hq⟩

theorem State.gateLaw_congr {s t : State} (hg : t.su.gate = s.su.gate) (hh : t.pool.heads = s.pool.heads)
    (hq : t.pool.queue = s.pool.queue) (h : s.gateLaw) : t.gateLaw := by
  unfold State.gateLaw at h ⊢
  rwa [hg, hh, hq]

@[simp] theorem State.beginReport_su (s : State) : s.beginReport.su = s.su := by
  unfold State.beginReport; (repeat' split) <;> rfl
@[simp] theorem State.beginReport_heads (s : State) : s.beginReport.pool.heads = s.pool.heads := by
  unfold State.beginReport; (repeat' split) <;> rfl
@[simp] theorem State.beginReport_queue (s : State) : s.beginReport.pool.queue = s.pool.queue := by
  unfold State.beginReport; (repeat' split) <;> rfl

theorem reset_gateLaw : State.reset.gateLaw :=
  State.gateLaw_of_rest (fun x hx => by rw [List.eq_of_mem_replicate hx]; rfl) rfl

theorem State.gateLaw_freeHead {s : State} {h : Nat} (hP : s.gateLaw) : (s.setHeadRun h none).gateLaw := by
  intro hg
  refine ⟨fun x hx => ?_, (hP hg).2⟩
  rw [State.setHeadRun_heads] at hx
  obtain ⟨i, hi, rfl⟩ := List.mem_iff_getElem.1 hx
  rw [List.getElem_modify]
  split
  · rfl
  · exact (hP hg).1 _ (List.getElem_mem _)

theorem kept_gateLaw : Kept State.gateLaw where
  setHeadRun s h r hr _ hP := by
    rcases hr with rfl | hr | hr
    · exact State.gateLaw_freeHead hP
    · intro hg; rw [hP.headRun hg h] at hr; cases hr
    · exact fun hg => absurd hr hg
  setQueue s q hq hP := by
    intro hg
    rw [State.setQueue_su] at hg
    obtain ⟨hh, hempty⟩ := hP hg
    rcases hq with rfl | hq | hq
    · simpa using hh
    · exact absurd hempty hq
    · exact absurd hq hg
  queueOrdinary s n hP := State.gateLaw_congr (by simp) (by simp) (by simp) hP
  advanceHead s h r p hr hP := fun hg => by rw [hP.headRun hg h] at hr; cases hr
  stopHeads s hP := fun hg => ⟨fun x hx => by obtain ⟨_, _, rfl⟩ := List.mem_map.1 hx; rfl, (hP hg).2⟩
  countWaits s hP := fun hg => ⟨(hP hg).1, by rw [State.countWaits_queue, (hP hg).2]; rfl⟩
  su s u _ hu hP := by
    rcases hu with hu | hu | ⟨hh, hq⟩
    · exact fun hg => absurd hu hg
    · exact State.gateLaw_congr hu rfl rfl hP
    · exact State.gateLaw_of_rest hh hq
  beginReport s hP := State.gateLaw_congr (by simp) (by simp) (by simp) hP
  restart s _ := State.gateLaw_of_rest (fun x hx => by obtain ⟨_, _, rfl⟩ := List.mem_map.1 hx; rfl) rfl
  arriveFrame s hP := fun hg => by
    obtain ⟨hh, hq⟩ := hP hg
    refine ⟨fun x hx => ?_, by simp [State.arriveFrame, hq]⟩
    obtain ⟨y, hy, rfl⟩ := List.mem_map.1 hx
    simp [hh y hy]
  powerOn _ _ := reset_gateLaw

/-- Settles O9: a head is started and a context queued for a playable phrase only, and the gate is closed only with every
head stopped and the queue empty. -/
theorem stepKeepsGateLaw : Obligations.StepKeepsGateLaw :=
  fun _ _ hs h => kept_gateLaw.step (fun _ _ hP => hP) h hs

/-! ### The SHORTAGE news -/

/-- R125's law by the SHORTAGE notices that wait, the one last sent, and whether a context waits: none waits and the news
is up to date, or BEGIN waits, or END does. -/
def NewsAgrees (urgent : List Notice) (sentBegin waiting : Bool) : Prop :=
  (urgent.count .shortageBegin = 0 ∧ urgent.count .shortageEnd = 0 ∧ sentBegin = waiting) ∨
  (urgent.count .shortageBegin = 1 ∧ urgent.count .shortageEnd = 0 ∧ sentBegin = false ∧ waiting = true) ∨
  (urgent.count .shortageBegin = 0 ∧ urgent.count .shortageEnd = 1 ∧ sentBegin = true ∧ waiting = false)

theorem State.shortageLaw_iff (s : State) :
    s.shortageLaw ↔ NewsAgrees s.sender.urgent s.pool.sentBegin (!s.pool.queue.isEmpty) := by
  have hwait : s.pool.queue ≠ [] ↔ (!s.pool.queue.isEmpty) = true := by cases s.pool.queue <;> simp
  simp only [State.shortageLaw, State.shortageMark, NewsAgrees, hwait, List.contains_eq_mem, decide_eq_true_eq,
    ← List.count_pos_iff]
  generalize s.sender.urgent.count .shortageBegin = b
  generalize s.sender.urgent.count .shortageEnd = e
  generalize s.pool.sentBegin = sent
  generalize (!s.pool.queue.isEmpty) = waiting
  constructor
  · rintro ⟨hone, hmark, hb, he⟩
    rcases Nat.eq_zero_or_pos b with rfl | hbpos
    · rcases Nat.eq_zero_or_pos e with rfl | hepos
      · simp only [lt_self_iff_false, if_false] at hmark
        exact .inl ⟨rfl, rfl, Bool.eq_iff_iff.2 hmark⟩
      · simp only [lt_self_iff_false, if_false, hepos, if_true, Bool.false_eq_true, false_iff] at hmark
        exact .inr (.inr ⟨rfl, by omega, he hepos, by simpa using hmark⟩)
    · simp only [hbpos, if_true, true_iff] at hmark
      exact .inr (.inl ⟨by omega, by omega, hb hbpos, hmark⟩)
  · rintro (⟨rfl, rfl, rfl⟩ | ⟨rfl, rfl, rfl, rfl⟩ | ⟨rfl, rfl, rfl, rfl⟩) <;> simp

theorem count_filter_ne {n m : Notice} (l : List Notice) :
    (l.filter (· != n)).count m = if m = n then 0 else l.count m := by
  split
  · next h =>
    subst h
    exact List.count_eq_zero.2 (by simp)
  · next h => exact List.count_filter (by simpa using h)

/-- R125: the notice of a change of the wait queue keeps the news in agreement. -/
theorem NewsAgrees.noted {urgent : List Notice} {sent waiting : Bool} (h : NewsAgrees urgent sent (!waiting)) :
    NewsAgrees (shortageNoted urgent waiting) sent waiting := by
  unfold shortageNoted
  cases waiting <;>
    simp only [Bool.false_eq_true, if_false, if_true, List.contains_eq_mem, decide_eq_true_eq, ← List.count_pos_iff] <;>
    rcases h with ⟨hb, he, hs⟩ | ⟨hb, he, hs, hw⟩ | ⟨hb, he, hs, hw⟩ <;>
    simp_all [NewsAgrees, count_filter_ne]

theorem NewsAgrees.queueNews {urgent : List Notice} {sent : Bool} {old new : List Waiter}
    (h : NewsAgrees urgent sent (!old.isEmpty)) : NewsAgrees (queueNews urgent old new) sent (!new.isEmpty) := by
  cases old <;> cases new
  · exact h
  · exact h.noted (waiting := true)
  · exact h.noted (waiting := false)
  · exact h

theorem count_placeLane {n : Notice} (hn : ∀ l p news, n ≠ .lane l p news) (urgent : List Notice) (l p : Nat)
    (news : LaneNews) : (placeLane urgent l p news).count n = urgent.count n := by
  have hne : ∀ l p news, (Notice.lane l p news == n) = false := fun l p news => by
    simpa using (hn l p news).symm
  fun_induction placeLane urgent l p news with
  | case1 => simp [List.count_cons, hne]
  | case2 => simp [List.count_cons, hne]
  | case3 _ _ _ _ _ ih => simp [List.count_cons, hne, ih]
  | case4 _ _ _ ih => simp [List.count_cons, ih]

theorem NewsAgrees.placeLane {urgent : List Notice} {sent waiting : Bool} (h : NewsAgrees urgent sent waiting)
    (l p : Nat) (news : LaneNews) : NewsAgrees (placeLane urgent l p news) sent waiting := by
  unfold NewsAgrees at h ⊢
  rwa [count_placeLane (by simp), count_placeLane (by simp)]

/-- R125: a SHORTAGE notice that begins to be sent becomes the one last sent. -/
theorem NewsAgrees.sent {n : Notice} {urgent : List Notice} {sent waiting : Bool}
    (h : NewsAgrees (n :: urgent) sent waiting) : NewsAgrees urgent (sentAfter sent n) waiting := by
  unfold NewsAgrees at h ⊢
  cases n <;> simp [sentAfter] at h ⊢ <;> grind

theorem State.shortageLaw_congr {s t : State} (hu : t.sender.urgent = s.sender.urgent)
    (hs : t.pool.sentBegin = s.pool.sentBegin) (hq : t.pool.queue.isEmpty = s.pool.queue.isEmpty)
    (h : s.shortageLaw) : t.shortageLaw := by
  rw [State.shortageLaw_iff] at h ⊢
  rwa [hu, hs, hq]

theorem State.shortageLaw_beginReport {s : State} (h : s.shortageLaw) : s.beginReport.shortageLaw := by
  unfold State.beginReport
  split
  · next n urgent hu =>
    rw [State.shortageLaw_iff, hu] at h
    exact (State.shortageLaw_iff _).2 h.sent
  · next hu =>
    split
    · exact h
    · exact State.shortageLaw_congr rfl rfl rfl h

theorem reset_shortageLaw : State.reset.shortageLaw := (State.shortageLaw_iff _).2 (.inl ⟨rfl, rfl, rfl⟩)

theorem kept_shortageLaw : Kept State.shortageLaw where
  setQueue s q _ hP := by
    rw [State.shortageLaw_iff] at hP ⊢
    simpa using hP.queueNews
  queueOrdinary s n hP := State.shortageLaw_congr (by simp) (by simp) (by simp) hP
  countWaits s hP := State.shortageLaw_congr (s := s) rfl rfl (by simp) hP
  queueLane s l p news hP := by
    rw [State.shortageLaw_iff] at hP ⊢
    exact hP.placeLane l p news
  beginReport s hP := State.shortageLaw_beginReport hP
  restart s _ := (State.shortageLaw_iff _).2 (.inl ⟨rfl, rfl, rfl⟩)
  arriveFrame s hP := State.shortageLaw_congr (s := s) rfl rfl (by simp [State.arriveFrame]) hP
  powerOn _ _ := reset_shortageLaw

/-- Settles O10: the urgent queue changes with the wait queue, by a LANE notice, and as its oldest notice is sent. -/
theorem stepKeepsShortageLaw : Obligations.StepKeepsShortageLaw :=
  fun _ _ hs h => kept_shortageLaw.step (fun _ _ hP => hP) h hs

/-! ### The bounds of the ordinary queue -/

theorem ReportSender.note_bounds {r : ReportSender} (n : Notice) (h : r.ordinary.length ≤ 64 ∧ r.drops ≤ 255) :
    (r.note n).ordinary.length ≤ 64 ∧ (r.note n).drops ≤ 255 := by
  unfold ReportSender.note
  split
  · exact ⟨by simp; omega, h.2⟩
  · exact ⟨h.1, Nat.min_le_left ..⟩

theorem State.reportLaw_beginReport {s : State} (h : s.reportLaw) : s.beginReport.reportLaw := by
  unfold State.beginReport
  split
  · exact ⟨h.1, Nat.zero_le _⟩
  · split
    · exact h
    · next n rest hrest =>
      refine ⟨?_, Nat.zero_le _⟩
      have hlen := h.1
      rw [hrest, List.length_cons] at hlen
      dsimp only [ReportSender.transmit]
      split
      · rw [List.length_drop, List.length_cons]; omega
      · omega

theorem kept_reportLaw : Kept State.reportLaw where
  setQueue s q _ hP := by unfold State.reportLaw at hP ⊢; simpa using hP
  queueOrdinary s n hP := by
    unfold State.reportLaw
    rw [State.queueOrdinary_sender]
    exact ReportSender.note_bounds n hP
  beginReport s hP := State.reportLaw_beginReport hP
  restart _ _ := ⟨Nat.zero_le _, Nat.zero_le _⟩
  powerOn _ _ := ⟨Nat.zero_le _, Nat.zero_le _⟩

/-- Settles O11: a notice is placed while 64 do not stand there, and the drop count stays at 255. -/
theorem stepKeepsReportBounds : Obligations.StepKeepsReportBounds :=
  fun _ _ hs h => kept_reportLaw.step (fun _ _ hP => hP) h hs

/-- Settles O5. -/
theorem resetSatisfiesTheLaws : Obligations.ResetSatisfiesTheLaws :=
  ⟨rfl, reset_laneLaw, reset_tagLaw, reset_gateLaw, reset_shortageLaw, Nat.zero_le _, Nat.zero_le _⟩

end Sys2Proof.Machine

/-! PROOF. The commands that load a table or answer from one: what each refuses, in the order of its checks, and the one
entry, plan or record it sets (spec chapters 3 to 9). -/

namespace Sys2Proof.Machine

/-! ### The queue of commands, power-on -/

/-- Settles O1: both are the step's two cases. -/
theorem stepRunsFrontCommand : Obligations.StepRunsFrontCommand := fun _ _ _ => ⟨rfl, rfl⟩

theorem laneMap_replicate_initial (n l : Nat) : laneMap (List.replicate n Lane.initial) l = none := by
  refine List.find?_eq_none.2 fun p _ => ?_
  rw [List.getElem?_replicate]
  split <;> simp [Lane.initial, Lane.holds]

/-- Settles O4: no lane is ALIGNED at power-on, and every other value stands in the reset state. -/
theorem powerOnSetsEveryUnit : Obligations.PowerOnSetsEveryUnit := by
  intro s
  have hmap : ∀ l, s.powerOn.map l = none := laneMap_replicate_initial 4
  have hcontrol : s.powerOn.control = none := List.find?_eq_none.2 fun l _ => by simp [State.mapped, hmap]
  exact ⟨s.powerOn, rfl, rfl, hmap, hcontrol, rfl, rfl, rfl, rfl, rfl, rfl, rfl, rfl, rfl, rfl, rfl, rfl, rfl, rfl, rfl,
    rfl, rfl, rfl, rfl, rfl, rfl, rfl, rfl, rfl, rfl, rfl, rfl⟩

/-! ### Lengths -/

/-- R149: the required length, as the number of bytes behind code and reference. -/
@[simp] theorem lengthIs_add_two (n : Nat) (args : List Byte) : lengthIs (n + 2) args = decide (args.length = n) := by
  rw [Bool.eq_iff_iff]
  simp [lengthIs, bodyLength]

theorem lengthCounts_iff {fixed unit pos : Nat} {args : List Byte} : lengthCounts fixed unit pos args = true ↔
    pos < args.length ∧ fixed + unit * field8 args pos ≤ 72 ∧ args.length + 2 = fixed + unit * field8 args pos := by
  simp [lengthCounts, bodyLength]

theorem field8_le (args : List Byte) (i : Nat) : field8 args i ≤ 255 := by
  have := (args.getD i 0).isLt
  unfold field8
  omega

/-! ### Tone Bank -/

/-- Settles O20: the order's fields, clamped as the components are loaded. -/
theorem toneLoadsEntry : Obligations.ToneLoadsEntry := by
  intro s ref args h
  dsimp only
  rw [exec_tone, State.takeMessage_of_ready h]
  simp only [takeTone, lengthIs_add_two 9, Bool.not_eq_true', decide_eq_false_iff_not]
  rfl

theorem Template.names_iff {t : Template} {c : Nat} :
    t.names c = true ↔ t.cadence = c ∨ ∃ tone duration, Step.tone tone c duration ∈ t.steps := by
  unfold Template.names
  rw [Bool.or_eq_true, beq_iff_eq, List.any_eq_true]
  refine or_congr_right ⟨?_, ?_⟩
  · rintro ⟨st, hst, hc⟩
    cases st with
    | tone tone cadence duration => obtain rfl := beq_iff_eq.1 hc; exact ⟨tone, duration, hst⟩
    | _ => cases hc
  · rintro ⟨tone, duration, hst⟩
    exact ⟨_, hst, beq_self_eq_true c⟩

theorem State.mem_liveSlots {s : State} {k : Nat} : k ∈ s.liveSlots ↔ k < 128 ∧ (s.ctx k).isSome := by
  simp [State.liveSlots]

theorem State.any_liveSlots {s : State} {f : Ctx → Bool} :
    (s.liveSlots.any fun k => (s.ctx k).any f) = true ↔ ∃ k < 128, ∃ x, s.ctx k = some x ∧ f x = true := by
  simp only [List.any_eq_true, State.mem_liveSlots, Option.any_eq_true]
  constructor
  · rintro ⟨k, ⟨hk, _⟩, x, hx, hf⟩; exact ⟨k, hk, x, hx, hf⟩
  · rintro ⟨k, hk, x, hx, hf⟩; exact ⟨k, ⟨hk, by simp [hx]⟩, x, hx, hf⟩

theorem State.cadenceInUse_iff {s : State} {c : Nat} : s.cadenceInUse c = true ↔
    ∃ k < 128, ∃ x t, s.ctx k = some x ∧ s.template x.template = some t ∧ t.names c = true := by
  unfold State.cadenceInUse
  rw [State.any_liveSlots]
  simp only [Option.any_eq_true, exists_and_left]

theorem State.templateInUse_iff {s : State} {n : Nat} :
    s.templateInUse n = true ↔ ∃ k < 128, ∃ x, s.ctx k = some x ∧ x.template = n := by
  unfold State.templateInUse
  rw [State.any_liveSlots]
  simp only [beq_iff_eq]

/-- Settles O21: the checks in their order; a pair with an on duration of 0 is one of the order's pairs. -/
theorem cadenceLoadsEntry : Obligations.CadenceLoadsEntry := by
  intro s ref args h
  refine ⟨?_, fun c => ?_⟩
  · rw [exec_cadence, State.takeMessage_of_ready h]
    simp only [takeCadence, lengthIs_add_two 10, Bool.not_eq_true', decide_eq_false_iff_not, parsePairs, List.any_map]
    rfl
  · simp only [State.cadenceInUse_iff, Template.names_iff]

@[simp] theorem cadencePeriod_append (a b : List (Nat × Nat)) :
    cadencePeriod (a ++ b) = cadencePeriod a + cadencePeriod b := by
  induction a with
  | nil => simp [cadencePeriod]
  | cons x a ih => simp [cadencePeriod, ih]; omega

/-- R56: the pairs stand one after another, so a position behind some of them is judged by the rest. -/
theorem gateIn_append (a b : List (Nat × Nat)) (i : Nat) : gateIn (a ++ b) (cadencePeriod a + i) = gateIn b i := by
  induction a with
  | nil => simp [cadencePeriod]
  | cons x a ih =>
    obtain ⟨on, off⟩ := x
    rw [List.cons_append, gateIn, if_neg, if_neg, ← ih]
    · congr 1
      simp only [cadencePeriod]
      omega
    · simp only [cadencePeriod]
      omega
    · simp only [cadencePeriod]
      omega

theorem gateOn_append_cons (a b : List (Nat × Nat)) (x : Nat × Nat) (i : Nat) :
    gateOn (a ++ x :: b) (cadencePeriod a + i) = gateIn (x :: b) i := by
  rw [← gateIn_append a]
  cases a <;> rfl

/-- Settles O22: behind the pairs before it, a position is on or off by its own pair. -/
theorem cadenceGateFollowsPairs : Obligations.CadenceGateFollowsPairs := by
  refine ⟨fun n => ⟨rfl, rfl⟩, fun before on off after i => ⟨fun h => ?_, fun h h' => ?_, ?_, fun n => ?_⟩⟩
  · rw [gateOn_append_cons, gateIn, if_pos h]
  · rw [gateOn_append_cons, gateIn, if_neg (by omega), if_pos h']
  · rw [cadencePeriod_append, cadencePeriod]
    omega
  · simp only [advancePosition]
    split <;> split <;> omega

/-! ### Slot action table -/

@[simp] theorem writeSlots_length (slots : List SlotEntry) (g mask : Nat) (e : SlotEntry) :
    (writeSlots slots g mask e).length = slots.length :=
  foldl_keeps List.length _ (fun t j => by split <;> simp) _ _

/-- The first `n` slots of a group written where they are marked. -/
theorem getElem?_foldl_marked (g mask : Nat) (e : SlotEntry) (slots : List SlotEntry) (k : Nat) (hk : k < slots.length) :
    ∀ n, ((List.range n).foldl (fun t j => if mask.testBit j then t.set (8 * g + j) e else t) slots)[k]? =
      if 8 * g ≤ k ∧ k < 8 * g + n ∧ mask.testBit (k - 8 * g) = true then some e else slots[k]?
  | 0 => by rw [if_neg (by omega)]; rfl
  | n + 1 => by
    rw [List.range_succ, List.foldl_append, List.foldl_cons, List.foldl_nil]
    have ih := getElem?_foldl_marked g mask e slots k hk n
    have hl : k < ((List.range n).foldl (fun t j => if mask.testBit j then t.set (8 * g + j) e else t) slots).length := by
      rwa [foldl_keeps List.length _ (fun t j => by split <;> simp)]
    by_cases hn : k = 8 * g + n
    · subst hn
      rw [if_neg (by omega)] at ih
      by_cases hm : mask.testBit n = true
      · simp [hm, hl]
      · simp [hm, ih]
    · have hset : ∀ t : List SlotEntry, (if mask.testBit n then t.set (8 * g + n) e else t)[k]? = t[k]? := fun t => by
        split
        · rw [List.getElem?_set_ne (by omega)]
        · rfl
      rw [hset, ih]
      congr 1
      simp only [eq_iff_iff]
      constructor <;> rintro ⟨h1, h2, h3⟩ <;> exact ⟨h1, by omega, h3⟩

theorem getElem?_writeSlots {slots : List SlotEntry} {k : Nat} (hk : k < slots.length) (g mask : Nat) (e : SlotEntry) :
    (writeSlots slots g mask e)[k]? = if k / 8 = g ∧ mask.testBit (k % 8) = true then some e else slots[k]? := by
  unfold writeSlots
  rw [getElem?_foldl_marked g mask e slots k hk 8]
  by_cases hg : k / 8 = g
  · subst hg
    have hmod : k - 8 * (k / 8) = k % 8 := by omega
    rw [hmod]
    congr 1
    exact propext ⟨fun h => ⟨rfl, h.2.2⟩, fun h => ⟨by omega, by omega, h.2⟩⟩
  · rw [if_neg (by omega), if_neg (by simp [hg])]

/-- Settles O23: a slot's group and place in it decide whether the order writes it. -/
theorem setSlotsWritesMarkedSlots : Obligations.SetSlotsWritesMarkedSlots := by
  intro s ref args h
  rw [exec_setSlots, State.takeMessage_of_ready h]
  simp only [takeSetSlots, lengthIs_add_two 4, Bool.not_eq_true', decide_eq_false_iff_not, BaseAction.ofCode]
  refine ⟨fun hl => ?_, fun hl hg => ?_, fun hl hg ha => ?_, fun hl hg ha => ?_⟩
  · rw [if_pos hl]; rfl
  · rw [if_neg (by omega), if_pos hg]; rfl
  · rw [if_neg (by omega), if_neg (by omega), if_neg (by omega), if_neg (by omega)]; rfl
  · rw [if_neg (by omega), if_neg (by omega)]
    by_cases h0 : field8 args 2 = 0
    · rw [if_pos h0]
      exact ⟨_, rfl, writeSlots_length .., fun k hk => by rw [getElem?_writeSlots hk, if_pos h0]⟩
    · rw [if_neg h0, if_pos (by omega)]
      exact ⟨_, rfl, writeSlots_length .., fun k hk => by rw [getElem?_writeSlots hk, if_neg h0]⟩

/-! ### Templates -/

/-- Settles O24: the length counts the declared steps; the other checks follow in their order. -/
theorem templateStoresWholeTemplate : Obligations.TemplateStoresWholeTemplate := by
  intro s ref args h
  refine ⟨?_, fun n => State.templateInUse_iff⟩
  have hlen : ((!lengthCounts 6 4 3 args) = true) =
      ¬ (3 < args.length ∧ 6 + 4 * field8 args 3 ≤ 72 ∧ args.length = 4 + 4 * field8 args 3) := by
    rw [Bool.not_eq_true', ← Bool.not_eq_true, lengthCounts_iff]
    have : args.length + 2 = 6 + 4 * field8 args 3 ↔ args.length = 4 + 4 * field8 args 3 := by omega
    rw [this]
  rw [exec_template, State.takeMessage_of_ready h]
  simp only [takeTemplate, hlen]
  rfl

/-! ### Head plan, store -/

/-- Settles O38: the three values as clamped at the taking. -/
theorem headPlanReplacesPlan : Obligations.HeadPlanReplacesPlan := by
  intro s ref args h
  rw [exec_headPlan, State.takeMessage_of_ready h]
  simp only [takeHeadPlan, lengthIs_add_two 3, Bool.not_eq_true', decide_eq_false_iff_not]
  rfl

/-- Settles O39: the laws of the store. -/
theorem storeReadsLastWrite : Obligations.StoreReadsLastWrite := fun cells _ _ hw ha =>
  ⟨storeRead_storeWrite_same hw, fun _ hc => storeRead_storeWrite_other hc cells, Memory.wf_storeWrite ha hw⟩

/-! ### Queries -/

/-- Settles O57: one row of the six after another, the number held to the subject's range. -/
theorem queriesAnswerOnce : Obligations.QueriesAnswerOnce := by
  intro s ref args i subject last part h hrow
  have hsum : field16 args 0 ≤ 65535 := by
    have h0 := field8_le args 0
    have h1 := field8_le args (0 + 1)
    unfold field16
    omega
  have htake : ∀ n m (p : Nat → List Byte), (s.queryPart n (field16 args 0) =
      if field16 args 0 ≤ m then some (p (field16 args 0)) else none) → takeQuery n ref args s =
      if args.length ≠ 2 then s.refuse .badLength 0x50 ref (args.length + 3)
      else if m < field16 args 0 then s.refuse .badParam 0x50 ref
      else s.queueOrdinary (.status ref n (field16 args 0) (p (field16 args 0))) := by
    intro n m p hp
    simp only [takeQuery, lengthIs_add_two 2, Bool.not_eq_true', decide_eq_false_iff_not, hp]
    by_cases hm : field16 args 0 ≤ m
    · rw [if_pos hm, if_neg (Nat.not_lt.2 hm)]; rfl
    · rw [if_neg hm, if_pos (Nat.not_le.1 hm)]; rfl
  simp only [List.mem_cons, Prod.mk.injEq, List.not_mem_nil, or_false] at hrow
  rcases hrow with ⟨rfl, rfl, rfl, rfl⟩ | ⟨rfl, rfl, rfl, rfl⟩ | ⟨rfl, rfl, rfl, rfl⟩ | ⟨rfl, rfl, rfl, rfl⟩ |
    ⟨rfl, rfl, rfl, rfl⟩ | ⟨rfl, rfl, rfl, rfl⟩
  · rw [exec_querySlot, State.takeMessage_of_ready h, htake 0 127 s.slotPart rfl]
  · rw [exec_queryHead, State.takeMessage_of_ready h, htake 1 23 s.headPart rfl]
  · rw [exec_queryCapture, State.takeMessage_of_ready h, htake 2 1 s.capturePart rfl]
  · rw [exec_queryTone, State.takeMessage_of_ready h, htake 3 31 s.tonePart rfl]
  · rw [exec_queryPhrase, State.takeMessage_of_ready h, htake 4 511 s.phrasePart rfl]
  · rw [exec_querySummary, State.takeMessage_of_ready h, htake 5 65535 (fun _ => s.summaryPart) (by
      rw [if_pos hsum]; rfl)]

end Sys2Proof.Machine

/-! PROOF. Report bodies and STATUS parts byte by byte (sections 12.5 to 12.7), and the places of notices in the queues
(R154, R155). -/

namespace Sys2Proof.Machine

/-! ### Codes as bytes -/

theorem le8_align (a : Align) : le8 a.code =
    [(match a with | .hunt => 0 | .check => 1 | .aligned => 2 | .spare => 3 : Byte)] := by cases a <;> rfl
theorem le8_gate (g : Gate) : le8 g.code =
    [(match g with | .closedBoth => 0 | .closedCheck => 1 | .isOpen => 2 : Byte)] := by cases g <;> rfl
theorem le8_base (b : BaseAction) : le8 b.code = [(match b with | .through => 0 | .mute => 1 : Byte)] := by
  cases b <;> rfl
theorem le8_entryState (e : EntryState) :
    le8 e.code = [(match e with | .unchecked => 1 | .valid => 2 | .invalid => 3 : Byte)] := by cases e <;> rfl
theorem length_le8 (n : Nat) : (le8 n).length = 1 := rfl
theorem length_le8Or (x : Option Nat) : (le8Or x).length = 1 := rfl
theorem length_flagByte (b : Bool) : (flagByte b).length = 1 := rfl
theorem le8Or_eq (x : Option Nat) : le8Or x = le8 (match x with | some l => l | none => 0xFF) := by cases x <;> rfl

/-! ### The parts of STATUS notices -/

theorem Ctx.statusPart_eq (c : Ctx) : c.statusPart =
    le8 c.template ++ le8 c.mode.code ++ le8 c.step ++ le8 c.state.code ++
      le24 (if c.state ≠ .timed then 0 else match c.remaining with | some n => n | none => 0xFFFFFF) ++
      le8 c.params.length ++ le8 c.cursor ++ le8 c.digitsLeft ++
      le8 (match c.head with | some h => h | none => if c.state = .waiting then 0xFE else 0xFF) ++
      le8 (match c.tag with | some tag => tag | none => 0) ++ le8 c.skipped ++
      [(if c.fellBack then 1 else 0 : Byte)] := by
  have hr : (if c.state = .timed then c.remaining.getD 0xFFFFFF else 0) =
      if c.state ≠ .timed then 0 else match c.remaining with | some n => n | none => 0xFFFFFF := by
    rw [ite_not]
    cases c.remaining <;> rfl
  have ht : c.tag.getD 0 = match c.tag with | some tag => tag | none => 0 := by cases c.tag <;> rfl
  rw [Ctx.statusPart, hr, ht]
  rfl

/-- The base action, pad, map mark and action of a SLOT reply, by the entry of the slot (R50). -/
theorem State.slotPart_eq {s : State} {k : Nat} {e : SlotEntry} (he : s.slots[k]? = some e) : s.slotPart k =
    [(match e.base with | .through => 0 | .mute => 1 : Byte), BitVec.ofNat 8 e.pad,
      if s.map (k / 32) = none then 0 else 1,
      if s.map (k / 32) = none then (match e.base with | .through => 0 | .mute => 1 : Byte)
      else match s.ctx k with
        | some c => (match c.mode with | .replace => 2 | .overlay => 3)
        | none => (match e.base with | .through => 0 | .mute => 1)] ++
    match s.ctx k with
    | some c => flagByte true ++ c.statusPart
    | none => flagByte false := by
  have hget : s.slots.getD k ⟨.through, 0⟩ = e := by simp [he]
  have heff : le8 (s.effectiveCode k) = [match s.ctx k with
      | some c => (match c.mode with | .replace => (2 : Byte) | .overlay => 3)
      | none => (match e.base with | .through => (0 : Byte) | .mute => 1)] := by
    unfold State.effectiveCode
    rw [hget]
    cases s.ctx k with
    | none => cases e.base <;> rfl
    | some c => dsimp only; cases c.mode <;> rfl
  unfold State.slotPart
  simp only [hget, State.mapped, laneOfSlot]
  cases hm : s.map (k / 32) with
  | none => simp only [le8_base, Option.isSome_none, Bool.false_eq_true, if_false]; rfl
  | some p => simp only [le8_base, heff, Option.isSome_some, if_true]; rfl

theorem State.headsIn_eq (s : State) {code : Nat} {is : Option HeadRun → Bool}
    (h : ∀ r : Option HeadRun, ((match r with | none => 0 | some x => x.phase.code) == code) = is r) :
    s.headsIn code = (List.range 24).countP fun g => is (s.headRun g) :=
  List.countP_congr fun g _ => iff_of_eq (congrArg (· = true) (h (s.headRun g)))

theorem State.captures_counted (s : State) : (List.range 2).countP (fun c => (s.capture c).isSome) =
    (s.capture 0).toList.length + (s.capture 1).toList.length := by
  rw [show List.range 2 = [0, 1] from rfl, List.countP_cons, List.countP_cons, List.countP_nil]
  cases s.capture 0 <;> cases s.capture 1 <;> rfl

/-- The field of a head's timer and state code (R128). -/
theorem HeadPhase.code_timer (p : HeadPhase) : ((BitVec.ofNat 8 p.code : Byte), p.timer) =
    match p with | .gathering n => (1, n) | .running => (2, 0) | .linger n => (3, n) := by cases p <;> rfl

theorem CapturePhase.code_timer (p : CapturePhase) : ((BitVec.ofNat 8 p.code : Byte), p.timer) =
    match p with | .waitingVoice n => (1, n) | .recording => (2, 0) := by cases p <;> rfl

theorem State.headPart_of_run {s : State} {h : Nat} {r : HeadRun} (hr : s.headRun h = some r) : s.headPart h =
    [BitVec.ofNat 8 r.phase.code, BitVec.ofNat 8 r.mode.code] ++ le16 r.phrase ++ le24 r.start ++ le24 r.length ++
      le8 r.trim ++ le24 r.offset ++ le8 (s.subscribers h).length ++ le24 r.phase.timer := by
  unfold State.headPart
  rw [hr]
  rfl

theorem State.capturePart_of_active {s : State} {c : Nat} {x : Capture} (hx : s.capture c = some x) :
    s.capturePart c = BitVec.ofNat 8 x.phase.code :: (le8 x.slot ++ le16 x.phrase ++ le8 x.window ++ le24 x.offset ++
      le24 x.start ++ le24 x.limit ++ le16 x.threshold ++ le24 x.phase.timer ++ le8 x.silenceHold ++ le24 x.written ++
      le24 (match x.lastLoud with | some q => q | none => 0xFFFFFF) ++ quietField x.quiet ++ le24 x.suspects) := by
  have hq : x.lastLoud.getD 0xFFFFFF = match x.lastLoud with | some q => q | none => 0xFFFFFF := by
    cases x.lastLoud <;> rfl
  unfold State.capturePart
  rw [hx]
  simp only [hq]
  rfl

theorem quietField_of_lt {n : Nat} (h : n < 65536) : quietField n = le16 n := by rw [quietField, if_pos h]

theorem State.summaryPart_eq (s : State) : s.summaryPart =
    (s.rx.lanes.flatMap fun x => [(match x.align with | .hunt => 0 | .check => 1 | .aligned => 2 | .spare => 3 : Byte)] ++
      le8 (match x.identity with | some l => l | none => 0xFF) ++ le8 x.slips) ++
    ([0, 1, 2, 3].flatMap fun l => le8 (match s.map l with | some p => p | none => 0xFF)) ++
    le8 (match s.control with | some l => l | none => 0xFF) ++ le8 s.rx.width ++ le8 s.rx.restartSet.toNat ++
    le8 ((List.range 128).countP fun k => (s.ctx k).isSome) ++
    [(match s.su.gate with | .closedBoth => 0 | .closedCheck => 1 | .isOpen => 2 : Byte),
      if s.su.mapLoaded then 1 else 0] ++
    le8 ((List.range 24).countP fun h => (s.headRun h).isNone) ++
    le8 ((List.range 24).countP fun h => (s.headRun h).any fun x => match x.phase with
      | .gathering _ => true | _ => false) ++
    le8 ((List.range 24).countP fun h => (s.headRun h).any fun x => match x.phase with
      | .running => true | _ => false) ++
    le8 ((List.range 24).countP fun h => (s.headRun h).any fun x => match x.phase with
      | .linger _ => true | _ => false) ++
    le8 s.pool.queue.length ++ le8 s.pool.gatherWindow ++ le8 s.pool.lingerTime ++ le8 s.pool.waitLimit ++
    [if s.shortageMark then 1 else 0] ++
    le8 ((s.capture 0).toList.length + (s.capture 1).toList.length) ++ le8 s.sender.ordinary.length := by
  have hfree := s.headsIn_eq (code := 0) (is := fun r => r.isNone) fun r => by
    rcases r with _ | ⟨p, _⟩
    · rfl
    · cases p <;> rfl
  have hgather := s.headsIn_eq (code := 1) (is := fun r => r.any fun x => match x.phase with
      | .gathering _ => true | _ => false) fun r => by
    rcases r with _ | ⟨p, _⟩
    · rfl
    · cases p <;> rfl
  have hrun := s.headsIn_eq (code := 2) (is := fun r => r.any fun x => match x.phase with
      | .running => true | _ => false) fun r => by
    rcases r with _ | ⟨p, _⟩
    · rfl
    · cases p <;> rfl
  have hlinger := s.headsIn_eq (code := 3) (is := fun r => r.any fun x => match x.phase with
      | .linger _ => true | _ => false) fun r => by
    rcases r with _ | ⟨p, _⟩
    · rfl
    · cases p <;> rfl
  have hlive : s.liveSlots.length = (List.range 128).countP fun k => (s.ctx k).isSome :=
    List.countP_eq_length_filter.symm
  unfold State.summaryPart
  rw [hfree, hgather, hrun, hlinger, hlive, s.captures_counted, show List.range 4 = [0, 1, 2, 3] from rfl]
  simp only [le8_align, le8_gate, le8Or_eq, flagByte, List.append_assoc, List.cons_append, List.nil_append]

theorem length_flatMap_const {α : Type} {n : Nat} {f : α → List Byte} (hf : ∀ x, (f x).length = n) (l : List α) :
    (l.flatMap f).length = l.length * n := by
  induction l with
  | nil => simp
  | cons x l ih => rw [List.flatMap_cons, List.length_append, hf, ih, List.length_cons, Nat.succ_mul, Nat.add_comm]

theorem State.length_summaryPart {s : State} (h : s.rx.lanes.length = 4) : s.summaryPart.length = 33 := by
  have hstates := length_flatMap_const
    (f := fun x : Lane => le8 x.align.code ++ le8Or x.identity ++ le8 x.slips) (n := 3) (fun _ => rfl) s.rx.lanes
  have hmap := length_flatMap_const (f := fun l => le8Or (s.map l)) (n := 1) (fun _ => rfl) (List.range 4)
  rw [h] at hstates
  rw [List.length_range] at hmap
  unfold State.summaryPart
  simp only [List.length_append, hstates, hmap, length_le8, length_le8Or, length_flagByte]

/-- Settles O58: each layout from the lemma of its part. -/
theorem reportsFollowLayouts : Obligations.ReportsFollowLayouts := by
  refine ⟨fun waiters => ⟨fun pattern => ⟨rfl, by cases pattern <;> rfl⟩, fun l p news => ⟨rfl, ?_⟩, ⟨rfl, rfl⟩,
    ⟨rfl, rfl⟩, fun cause order detail => ⟨rfl, by rcases order with _ | ⟨code, ref⟩ <;> rfl⟩,
    fun _ _ _ _ => ⟨rfl, rfl⟩, fun _ _ _ _ => ⟨rfl, rfl⟩, fun _ _ _ _ _ => ⟨rfl, rfl⟩⟩, ⟨rfl, rfl, rfl, rfl, rfl, rfl⟩,
    fun s => ⟨fun k e he => ?_, fun h hr => ?_, fun h r hr => ⟨?_, ?_⟩, fun c hc => ?_, fun c x hx => ⟨?_, ?_⟩,
      fun n e he => ?_, fun p => ?_, fun hlanes => ?_, s.summaryPart_eq⟩⟩
  · cases news <;> rfl
  · have hpart := s.slotPart_eq he
    refine ⟨fun hc => ?_, fun c hc => ?_⟩
    · rw [hpart, hc]
      rfl
    · rw [hpart, hc]
      refine ⟨rfl, ?_⟩
      dsimp only
      rw [Ctx.statusPart_eq]
      rfl
  · rw [State.headPart, hr]
    rfl
  · rw [s.headPart_of_run hr]
    rfl
  · exact ⟨_, _, _, s.headPart_of_run hr, by cases r.mode <;> rfl, r.phase.code_timer⟩
  · rw [State.capturePart, hc]
    rfl
  · rw [s.capturePart_of_active hx]
    rfl
  · exact ⟨_, _, _, s.capturePart_of_active hx, rfl, quietField_of_lt, x.phase.code_timer⟩
  · rw [State.tonePart, List.getD_eq_getElem?_getD, he]
    simp [Oscillator.statusPart]
  · refine ⟨_, _, rfl, rfl, fun he => ?_, fun e he => ⟨_, ?_, rfl⟩⟩
    · rw [State.phrasePart, he, le8_gate]
      rfl
    · rw [State.phrasePart, he]
      dsimp only
      rw [le8_gate, le8_entryState]
      rfl
  · exact State.length_summaryPart hlanes

/-! ### The queues -/

theorem placeLane_of_notMem {l p : Nat} {news : LaneNews} : ∀ {before : List Notice},
    (∀ j q, Notice.lane j p q ∉ before) → ∀ after, placeLane (before ++ after) l p news = before ++ placeLane after l p news
  | [], _, _ => rfl
  | n :: before, h, after => by
    have ih := placeLane_of_notMem (l := l) (news := news) (before := before)
      (fun j q hm => h j q (List.mem_cons_of_mem n hm)) after
    cases n with
    | lane j q m =>
      have hq : q ≠ p := by rintro rfl; exact h j m List.mem_cons_self
      rw [List.cons_append, placeLane, if_neg hq, ih]
      rfl
    | _ => exact congrArg _ ih

/-- Settles O59: an ordinary notice by the room left; a LANE notice goes past the notices that are not its lane's. -/
theorem noticesFindTheirPlaces : Obligations.NoticesFindTheirPlaces := by
  refine ⟨fun s n => ⟨fun h => if_pos h, fun h => if_neg (Nat.not_lt.2 h)⟩, fun before after l k p m news h => ⟨?_, ?_⟩⟩
  · have hend := placeLane_of_notMem (l := l) (news := news) h []
    rwa [List.append_nil] at hend
  · rw [placeLane_of_notMem h, placeLane, if_pos rfl]

end Sys2Proof.Machine

/-! PROOF. Template validation (R66, R67, section 12.3), and the checks of PLAY in their order (R70, R71). -/

namespace Sys2Proof.Machine

/-! ### One step -/

/-- A step taken from four bytes is the one they spell, with its numbers in range. -/
theorem spelled_of_parseStep {kind b1 b2 b3 : Byte} {i reps : Nat} {st : Step} (h : parseStep kind b1 b2 b3 = some st)
    (ha : stepAllowed i reps st = true) :
    stepSpelled kind.toNat b1.toNat b2.toNat b3.toNat st ∧ stepInRange i st ∧ (kind.toNat = 6 → reps < 4) := by
  have hk := kind.isLt
  have h1 := b1.isLt
  have h2 := b2.isLt
  have h3 := b3.isLt
  unfold parseStep at h
  dsimp only at h
  split_ifs at h <;> obtain rfl := Option.some.inj h <;> refine ⟨?_, ?_, fun h6 => ?_⟩ <;>
    simp only [stepSpelled, stepInRange, stepAllowed, Bool.and_eq_true, decide_eq_true_eq, and_true] at ha ⊢ <;> omega

/-- Four bytes that spell a step with its numbers in range are taken as it, where room is left for a REPEAT. -/
theorem parseStep_of_spelled {kind b1 b2 b3 : Byte} {i reps : Nat} {st : Step}
    (h : stepSpelled kind.toNat b1.toNat b2.toNat b3.toNat st) (hr : stepInRange i st) (h6 : kind.toNat = 6 → reps < 4) :
    parseStep kind b1 b2 b3 = some st ∧ stepAllowed i reps st = true := by
  have hk := kind.isLt
  unfold parseStep stepAllowed
  cases st with
  | tone tone cadence duration =>
    obtain ⟨hkind, rfl, rfl⟩ := h
    obtain ⟨ht, -, -⟩ := hr
    rw [if_pos (by omega), if_pos ht, show kind.toNat / 16 = cadence by omega]
    exact ⟨rfl, rfl⟩
  | silence duration =>
    obtain ⟨hkind, rfl⟩ := h
    simp [hkind, hr.1]
  | phrase phrase =>
    obtain ⟨hkind, rfl⟩ := h
    simpa [hkind, stepInRange] using hr
  | loop phrase cycles =>
    obtain ⟨hkind, rfl, rfl⟩ := h
    simpa [hkind] using hr.1
  | digits base count =>
    obtain ⟨hkind, rfl, rfl⟩ := h
    simpa [hkind, stepInRange] using hr
  | rep target times =>
    obtain ⟨hkind, rfl, rfl⟩ := h
    simp [hkind, hr.1, h6 hkind]

/-- Section 12.3 and R66 for one step at its index. -/
theorem parseStep_allowed_iff {kind b1 b2 b3 : Byte} {i reps : Nat} {st : Step} :
    (parseStep kind b1 b2 b3 = some st ∧ stepAllowed i reps st = true) ↔
      stepSpelled kind.toNat b1.toNat b2.toNat b3.toNat st ∧ stepInRange i st ∧ (kind.toNat = 6 → reps < 4) :=
  ⟨fun ⟨h, ha⟩ => spelled_of_parseStep h ha, fun ⟨h, hr, h6⟩ => parseStep_of_spelled h hr h6⟩

theorem isRep_iff_of_spelled {k x y z : Nat} {st : Step} (h : stepSpelled k x y z st) : st.isRep = true ↔ k = 6 := by
  cases st <;> simp only [stepSpelled] at h <;> simp only [Step.isRep, Bool.false_eq_true, true_iff, false_iff] <;> omega

/-! ### The steps of a body -/

/-- Byte `j` of step `i` of a TEMPLATE body. -/
def stepByte (args : List Byte) (i j : Nat) : Nat := field8 args (4 + 4 * i + j)

/-- The REPEAT kinds before step `i`. -/
def repsBefore (args : List Byte) (i : Nat) : Nat := (List.range i).countP fun j => stepByte args j 0 == 6

/-- The bytes of step `i` spell `st`. -/
def stepSpells (args : List Byte) (i : Nat) (st : Step) : Prop :=
  stepSpelled (stepByte args i 0) (stepByte args i 1) (stepByte args i 2) (stepByte args i 3) st

/-- Step `i` is a step in range for which, where it is a REPEAT, room is left. -/
def stepSound (args : List Byte) (i : Nat) : Prop :=
  (∃ st, stepSpells args i st ∧ stepInRange i st) ∧ (stepByte args i 0 = 6 → repsBefore args i < 4)

theorem repsBefore_succ {args : List Byte} {i : Nat} {st : Step} (h : stepSpells args i st) :
    repsBefore args (i + 1) = if st.isRep then repsBefore args i + 1 else repsBefore args i := by
  unfold repsBefore
  rw [List.range_succ, List.countP_append, List.countP_singleton]
  have hrep := isRep_iff_of_spelled h
  by_cases h6 : stepByte args i 0 = 6
  · simp [h6, hrep.2 h6]
  · simp [h6, mt hrep.1 h6]

theorem drop_step {args : List Byte} {n i : Nat} (hl : args.length = 4 + 4 * n) (hi : i < n) :
    args.drop (4 + 4 * i) = args.getD (4 + 4 * i) 0 :: args.getD (4 + 4 * i + 1) 0 :: args.getD (4 + 4 * i + 2) 0 ::
      args.getD (4 + 4 * i + 3) 0 :: args.drop (4 + 4 * (i + 1)) := by
  have hcons : ∀ k < args.length, args.drop k = args.getD k 0 :: args.drop (k + 1) := fun k hk => by
    rw [List.drop_eq_getElem_cons hk, List.getD_eq_getElem _ _ hk]
  rw [hcons _ (by omega), hcons _ (by omega), hcons _ (by omega), hcons _ (by omega)]
  rfl

/-- What the parse of the steps from index `i` on says: each step the one its bytes spell, or the first that is not sound. -/
def parsedFrom (args : List Byte) (n i : Nat) : Except Nat (List Step) → Prop
  | .ok steps => steps.length = n - i ∧ (repsBefore args i ≤ 4 → repsBefore args i + steps.countP Step.isRep ≤ 4) ∧
      ∀ j, i ≤ j → j < n → stepSound args j ∧ ∃ st, steps[j - i]? = some st ∧ stepSpells args j st ∧ stepInRange j st
  | .error k => i ≤ k ∧ k < n ∧ (∀ j, i ≤ j → j < k → stepSound args j) ∧ ¬ stepSound args k

theorem parseSteps_parsedFrom {args : List Byte} {n : Nat} (hl : args.length = 4 + 4 * n) {i : Nat} (hi : i ≤ n) :
    parsedFrom args n i (parseSteps (args.drop (4 + 4 * i)) i (repsBefore args i)) := by
  induction hi using Nat.decreasingInduction with
  | self =>
    rw [List.drop_eq_nil_of_le (by omega), parseSteps]
    · exact ⟨by simp, by simp, fun j h1 h2 => by omega⟩
    · simp
  | of_succ i hi ih =>
    have hi : i < n := hi
    have hstep : ∀ st, (parseStep (args.getD (4 + 4 * i) 0) (args.getD (4 + 4 * i + 1) 0) (args.getD (4 + 4 * i + 2) 0)
        (args.getD (4 + 4 * i + 3) 0) = some st ∧ stepAllowed i (repsBefore args i) st = true) ↔
        stepSpells args i st ∧ stepInRange i st ∧ (stepByte args i 0 = 6 → repsBefore args i < 4) :=
      fun st => parseStep_allowed_iff
    have hbad : (∀ st, ¬ (parseStep (args.getD (4 + 4 * i) 0) (args.getD (4 + 4 * i + 1) 0) (args.getD (4 + 4 * i + 2) 0)
        (args.getD (4 + 4 * i + 3) 0) = some st ∧ stepAllowed i (repsBefore args i) st = true)) →
        parsedFrom args n i (.error i) := fun h =>
      ⟨Nat.le_refl i, hi, fun j h1 h2 => absurd h2 (Nat.not_lt.2 h1), fun ⟨⟨st, hsp, hr⟩, h6⟩ =>
        h st ((hstep st).2 ⟨hsp, hr, h6⟩)⟩
    rw [drop_step hl hi, parseSteps]
    split
    · next hnone => exact hbad fun st h => by rw [hnone] at h; cases h.1
    · next st hsome =>
      split
      · next hallowed =>
        obtain ⟨hspells, hrange, hroom⟩ := (hstep st).1 ⟨hsome, hallowed⟩
        have hsound : stepSound args i := ⟨⟨st, hspells, hrange⟩, hroom⟩
        rw [← repsBefore_succ hspells]
        cases hrest : parseSteps (args.drop (4 + 4 * (i + 1))) (i + 1) (repsBefore args (i + 1)) with
        | ok steps =>
          rw [hrest] at ih
          obtain ⟨hlen, hcount, hall⟩ := ih
          refine ⟨by rw [List.length_cons]; omega, fun h4 => ?_, fun j h1 h2 => ?_⟩
          · rw [repsBefore_succ hspells] at hcount
            rw [List.countP_cons]
            by_cases hrep : st.isRep = true
            · have := hroom ((isRep_iff_of_spelled hspells).1 hrep)
              simp only [hrep, if_true] at hcount ⊢
              omega
            · simp only [hrep, if_false, Bool.false_eq_true] at hcount ⊢
              omega
          · rcases Nat.eq_or_lt_of_le h1 with rfl | h1
            · exact ⟨hsound, st, by simp, hspells, hrange⟩
            · obtain ⟨hs, st', hget, hst'⟩ := hall j h1 h2
              refine ⟨hs, st', ?_, hst'⟩
              rwa [show j - i = j - (i + 1) + 1 by omega, List.getElem?_cons_succ]
        | error k =>
          rw [hrest] at ih
          obtain ⟨hk1, hk2, hall, hk⟩ := ih
          refine ⟨by omega, hk2, fun j h1 h2 => ?_, hk⟩
          rcases Nat.eq_or_lt_of_le h1 with rfl | h1
          · exact hsound
          · exact hall j h1 h2
      · next hallowed =>
        refine hbad fun st' h => hallowed ?_
        rw [hsome] at h
        obtain ⟨h1, h2⟩ := h
        cases h1
        exact h2

/-- The step count and the fallback are in range (R66). -/
def templateHead (args : List Byte) : Prop :=
  1 ≤ field8 args 3 ∧ field8 args 3 ≤ 16 ∧ field8 args 1 ≤ 31 ∧ field8 args 2 ≤ 15

theorem parseTemplate_of_not_head {args : List Byte} (h : ¬ templateHead args) : parseTemplate args = .error 255 := by
  unfold templateHead at h
  unfold parseTemplate
  rw [if_pos (by omega)]

/-- Behind a good head a body is a template or fails at its first step that is not sound. -/
theorem parseTemplate_of_head {args : List Byte} (hl : args.length = 4 + 4 * field8 args 3) (h : templateHead args) :
    (∃ steps, parseTemplate args = .ok ⟨field8 args 1, field8 args 2, steps⟩ ∧
      parsedFrom args (field8 args 3) 0 (.ok steps)) ∨
    ∃ i, parseTemplate args = .error i ∧ parsedFrom args (field8 args 3) 0 (.error i) := by
  have hp := parseSteps_parsedFrom hl (Nat.zero_le _)
  rw [Nat.mul_zero, show repsBefore args 0 = 0 from rfl] at hp
  unfold templateHead at h
  unfold parseTemplate
  rw [if_neg (by omega)]
  cases hs : parseSteps (args.drop 4) 0 0 with
  | ok steps => exact .inl ⟨steps, rfl, by rwa [hs] at hp⟩
  | error i => exact .inr ⟨i, rfl, by rwa [hs] at hp⟩

/-- Settles O25: what the parse from the first step says. -/
theorem validTemplatesAreInRange : Obligations.ValidTemplatesAreInRange := by
  intro args hl
  refine ⟨fun t ht => ?_, fun i hi => ?_, parseTemplate_of_not_head, fun hh hall => ?_, fun hh i hi hbefore hnot => ?_⟩
  · by_cases hh : templateHead args
    · rcases parseTemplate_of_head hl hh with ⟨steps, hok, hlen, hreps, hsteps⟩ | ⟨i, herr, -⟩
      · rw [hok] at ht
        cases ht
        obtain ⟨h1, h2, h3, h4⟩ := hh
        have hcount : steps.countP Step.isRep ≤ 4 := by
          have hz := hreps (Nat.zero_le 4)
          exact Nat.le_trans (Nat.le_add_left ..) hz
        refine ⟨rfl, h3, rfl, h4, hlen, by rw [hlen]; exact h1, by rw [hlen]; exact h2, hcount, fun i st hst => ?_⟩
        have hi : i < field8 args 3 := by
          have hlt := (List.getElem?_eq_some_iff.1 hst).1
          rwa [hlen, Nat.sub_zero] at hlt
        obtain ⟨-, st', hst', -, hr⟩ := hsteps i (Nat.zero_le i) hi
        rw [Nat.sub_zero, hst] at hst'
        cases hst'
        exact hr
      · rw [herr] at ht
        cases ht
    · rw [parseTemplate_of_not_head hh] at ht
      cases ht
  · by_cases hh : templateHead args
    · rcases parseTemplate_of_head hl hh with ⟨steps, hok, -⟩ | ⟨k, herr, -, hk, -⟩
      · rw [hok] at hi
        cases hi
      · rw [herr] at hi
        cases hi
        exact .inr hk
    · rw [parseTemplate_of_not_head hh] at hi
      cases hi
      exact .inl rfl
  · rcases parseTemplate_of_head hl hh with ⟨steps, hok, hlen, -, hsteps⟩ | ⟨k, -, -, hk, -, hnot⟩
    · refine ⟨_, hok, rfl, rfl, hlen, fun i hi => ?_⟩
      obtain ⟨-, st, hst⟩ := hsteps i (Nat.zero_le i) hi
      exact ⟨st, hst⟩
    · exact absurd (hall k hk) hnot
  · rcases parseTemplate_of_head hl hh with ⟨steps, -, -, -, hsteps⟩ | ⟨k, herr, -, hk, hall, hnotk⟩
    · exact absurd (hsteps i (Nat.zero_le i) hi).1 hnot
    · rcases Nat.lt_trichotomy k i with h | rfl | h
      · exact absurd (hbefore k h) hnotk
      · exact herr
      · exact absurd (hall i (Nat.zero_le i) h) hnot

/-! ### PLAY -/

theorem State.mapped_eq_false_iff {s : State} {l : Nat} : (!s.mapped l) = true ↔ s.map l = none := by
  simp [State.mapped]

theorem Insertion.ofCode_eq_none_iff {n : Nat} : Insertion.ofCode n = none ↔ n ≠ 2 ∧ n ≠ 3 := by
  unfold Insertion.ofCode
  split_ifs <;> simp <;> omega

theorem State.tagHeld_iff {s : State} {args : List Byte} {slot : Nat} :
    s.tagHeld (playTag args) slot (field8 args 4 != 0) = true ↔ field8 args 5 ≠ 0 ∧ (List.range 128).any (fun k =>
      (field8 args 4 = 0 || k ≠ slot) && (s.ctx k).any fun c => c.tag = some (field8 args 5)) := by
  unfold State.tagHeld playTag
  by_cases h5 : field8 args 5 = 0
  · simp [h5]
  · simp only [h5, if_false, Option.isSome_some, Bool.true_and, ne_eq, not_false_eq_true, true_and, List.any_eq_true,
      State.mem_liveSlots, List.mem_range, Bool.and_eq_true, Option.any_eq_true]
    constructor
    · rintro ⟨k, ⟨hk, -⟩, hslot, x, hx, ht⟩
      refine ⟨k, hk, ?_, x, hx, by simpa using ht⟩
      simpa [imp_iff_not_or, or_comm] using hslot
    · rintro ⟨k, hk, hslot, x, hx, ht⟩
      refine ⟨k, ⟨hk, by simp [hx]⟩, ?_, x, hx, by simpa using ht⟩
      simpa [imp_iff_not_or, or_comm] using hslot

/-- The checks of PLAY, each as R70 and R71 give it. -/
theorem State.playRefusal_eq (s : State) (args : List Byte) : s.playRefusal args =
    if 127 < field16 args 0 then some Cause.badSlot
    else if s.rx.width ≤ field16 args 0 / 32 then some .laneAbsent
    else if s.map (field16 args 0 / 32) = none then some .laneDown
    else if 63 < field8 args 2 ∨ (field8 args 3 ≠ 2 ∧ field8 args 3 ≠ 3) then some .badParam
    else if s.template (field8 args 2) = none then some .noTemplate
    else if 12 < field8 args 6 ∨ (args.drop 7).any (fun d => decide (15 < d.toNat)) then some .badParam
    else if field8 args 5 ≠ 0 ∧ (List.range 128).any (fun k =>
        (field8 args 4 = 0 || k ≠ field16 args 0) && (s.ctx k).any fun c => c.tag = some (field8 args 5)) then
      some .tagInUse
    else if (s.ctx (field16 args 0)).isSome ∧ field8 args 4 = 0 then some .busy
    else if s.ctx (field16 args 0) = none ∧
        96 ≤ ((List.range 128).filter fun k => (s.ctx k).isSome).length then some .noContext
    else none := by
  have hbusy : (((s.ctx (field16 args 0)).isSome && !(field8 args 4 != 0)) = true) =
      ((s.ctx (field16 args 0)).isSome = true ∧ field8 args 4 = 0) := by
    simp
  have hroom : (((s.ctx (field16 args 0)).isNone && decide (96 ≤ s.liveSlots.length)) = true) =
      (s.ctx (field16 args 0) = none ∧ 96 ≤ ((List.range 128).filter fun k => (s.ctx k).isSome).length) := by
    rw [Bool.and_eq_true, Option.isNone_iff_eq_none, decide_eq_true_eq]
    rfl
  unfold State.playRefusal
  simp only [laneOfSlot, State.mapped_eq_false_iff, Option.isNone_iff_eq_none, Insertion.ofCode_eq_none_iff,
    State.tagHeld_iff, hbusy, hroom, playParams, List.any_map]
  rfl

/-- Settles O26: the length first, then the table of R70. -/
theorem playRefusalsInOrder : Obligations.PlayRefusalsInOrder := by
  intro s ref args h
  have hlen : lengthCounts 9 1 6 args = true ↔
      6 < args.length ∧ 9 + field8 args 6 ≤ 72 ∧ args.length = 7 + field8 args 6 := by
    rw [lengthCounts_iff]
    omega
  rw [exec_play, State.takeMessage_of_ready h]
  refine ⟨fun hl => ?_, fun h1 h2 h3 cause hc => ?_, s.playRefusal_eq args⟩
  · rw [takePlay, if_pos (by simpa using mt hlen.1 hl)]
    rfl
  · rw [takePlay, if_neg (by simpa using hlen.2 ⟨h1, h2, h3⟩), hc]
    rfl

end Sys2Proof.Machine

/-! PROOF. The phrase directory: PHRASE refused and taken, DIRECTORY CHECK (spec chapter 6). -/

namespace Sys2Proof.Machine

/-! ### The fault a PHRASE order names -/

theorem phraseAtFault_eq_some {bad : Nat → PhraseArg → Bool} {args : List Byte} {first n k : Nat} (hk : k < n)
    (hbad : bad (first + k) (parsePhraseArg args k) = true)
    (hbefore : ∀ j < k, ¬ bad (first + j) (parsePhraseArg args j) = true) :
    phraseAtFault bad (parsePhraseArgs args first n) = some (first + k) := by
  unfold phraseAtFault parsePhraseArgs
  rw [List.find?_map, List.find?_range_eq_some.2 ⟨hbad, List.mem_range.2 hk, fun j hj => by simpa using hbefore j hj⟩]
  rfl

theorem phraseAtFault_eq_none {bad : Nat → PhraseArg → Bool} {args : List Byte} {first n : Nat}
    (h : ∀ j < n, ¬ bad (first + j) (parsePhraseArg args j) = true) :
    phraseAtFault bad (parsePhraseArgs args first n) = none := by
  unfold phraseAtFault parsePhraseArgs
  rw [List.find?_map, List.find?_range_eq_none.2 fun j hj => by simpa using h j hj]
  rfl

theorem isPresent_iff {args : List Byte} {k : Nat} :
    (parsePhraseArg args k).isPresent = true ↔ field8 args (3 + 8 * k) ≤ 7 := decide_eq_true_iff

theorem isAbsent_iff {args : List Byte} {k : Nat} :
    (parsePhraseArg args k).isAbsent = true ↔ field8 args (3 + 8 * k) = 255 := beq_iff_eq

theorem State.fits_iff {s : State} {w o l : Nat} : s.fits w o l = true ↔
    (s.window w).attr ≠ .absent ∧ o + l ≤ (s.window w).size * 4096 := by
  rw [State.fits, Bool.and_eq_true, bne_iff_ne, decide_eq_true_iff]

theorem unplaced_iff {args : List Byte} {k : Nat} :
    (!(parsePhraseArg args k).isPresent && !(parsePhraseArg args k).isAbsent) = true ↔
      ¬ (field8 args (3 + 8 * k) ≤ 7 ∨ field8 args (3 + 8 * k) = 255) := by
  rw [Bool.and_eq_true, Bool.not_eq_true', Bool.not_eq_true', ← Bool.not_eq_true, ← Bool.not_eq_true, isPresent_iff,
    isAbsent_iff, not_or]

theorem emptied_iff {args : List Byte} {k : Nat} :
    ((parsePhraseArg args k).isPresent && (parsePhraseArg args k).length == 0) = true ↔
      field8 args (3 + 8 * k) ≤ 7 ∧ field24 args (7 + 8 * k) = 0 := by
  rw [Bool.and_eq_true, isPresent_iff, beq_iff_eq]
  rfl

theorem State.captureTarget_iff {s : State} {p : Nat} :
    s.captureTarget p = true ↔ ∃ c < 2, ∃ x, s.capture c = some x ∧ x.phrase = p := by
  simp [State.captureTarget, Option.any_eq_true]

theorem State.unfit_iff {s : State} {args : List Byte} {k : Nat} :
    (s.su.mapLoaded && ((parsePhraseArg args k).isPresent &&
      !s.fits (parsePhraseArg args k).window (parsePhraseArg args k).offset (parsePhraseArg args k).length)) = true ↔
    s.su.mapLoaded = true ∧ field8 args (3 + 8 * k) ≤ 7 ∧ ((s.window (field8 args (3 + 8 * k))).attr = .absent ∨
      (s.window (field8 args (3 + 8 * k))).size * 4096 < field24 args (4 + 8 * k) + field24 args (7 + 8 * k)) := by
  rw [Bool.and_eq_true, Bool.and_eq_true, isPresent_iff, Bool.not_eq_true', ← Bool.not_eq_true, State.fits_iff,
    not_and_or, not_not, Nat.not_le]
  rfl

/-! ### PHRASE -/

theorem takePhrase_of_refusal {s : State} {ref : Byte} {args : List Byte} {cause : Cause} {p : Nat}
    (hl : lengthCounts 5 8 2 args = true) (h : s.phraseRefusal (field16 args 0) (field8 args 2)
      (parsePhraseArgs args (field16 args 0) (field8 args 2)) = some (cause, p)) :
    takePhrase ref args s = s.refuse cause 0x21 ref p := by
  rw [takePhrase, if_neg (by simp [hl])]
  dsimp only
  rw [h]
  rfl

theorem lengthCounts_phrase_iff {args : List Byte} : lengthCounts 5 8 2 args = true ↔
    2 < args.length ∧ 5 + 8 * field8 args 2 ≤ 72 ∧ args.length = 3 + 8 * field8 args 2 := by
  rw [lengthCounts_iff]
  omega

/-- Settles O41: each check names its lowest phrase at fault where the checks before it pass for all entries. -/
theorem phraseRefusalsInOrder : Obligations.PhraseRefusalsInOrder := by
  intro s ref args h
  rw [exec_phrase, State.takeMessage_of_ready h]
  refine ⟨fun hl => ?_, fun h1 h2 h3 => ?_⟩
  · rw [takePhrase, if_pos (by simpa using mt lengthCounts_phrase_iff.1 hl)]
    rfl
  have hlen := lengthCounts_phrase_iff.2 ⟨h1, h2, h3⟩
  have hrefuse : ∀ {cause p}, s.phraseRefusal (field16 args 0) (field8 args 2)
      (parsePhraseArgs args (field16 args 0) (field8 args 2)) = some (cause, p) →
      (Host.Outcome.next (takePhrase ref args s) : Host.Outcome State Fault Refusal) =
        .next (s.refuse cause 0x21 ref p) := fun hr => congrArg _ (takePhrase_of_refusal hlen hr)
  refine ⟨fun hrun => hrefuse ?_, fun hn hrun k hk => ?_⟩
  · unfold State.phraseRefusal
    by_cases h0 : field8 args 2 = 0
    · rw [if_pos (.inl h0)]
    · rw [if_neg (by omega), if_pos (by omega)]
  have hcount : ¬ (field8 args 2 = 0 ∨ 8 < field8 args 2) := by omega
  refine ⟨fun hp h255 hb => hrefuse ?_, fun hplaced => ⟨fun he hb => hrefuse ?_, fun hfull =>
    ⟨fun ht hb => hrefuse ?_, fun hfree ho hb => hrefuse ?_⟩⟩⟩ <;>
    rw [State.phraseRefusal, if_neg hcount, if_neg (by omega)]
  · rw [phraseAtFault_eq_some hk (unplaced_iff.2 (not_or.2 ⟨hp, h255⟩)) fun j hj hbad => unplaced_iff.1 hbad (hb j hj)]
  all_goals rw [phraseAtFault_eq_none fun j hj hbad => unplaced_iff.1 hbad (hplaced j hj)]; dsimp only
  · rw [phraseAtFault_eq_some hk (emptied_iff.2 he) fun j hj hbad => hb j hj (emptied_iff.1 hbad)]
  all_goals rw [phraseAtFault_eq_none fun j hj hbad => hfull j hj (emptied_iff.1 hbad)]; dsimp only
  · rw [phraseAtFault_eq_some hk (State.captureTarget_iff.2 ht) fun j hj hbad => hb j hj (State.captureTarget_iff.1 hbad)]
  · rw [phraseAtFault_eq_none fun j hj hbad => hfree j hj (State.captureTarget_iff.1 hbad)]
    dsimp only
    rw [phraseAtFault_eq_some hk (State.unfit_iff.2 ho) fun j hj hbad => hb j hj (State.unfit_iff.1 hbad)]

/-- The directory after the first `n` entries of a PHRASE order have been written. -/
def State.writtenRun (s : State) (args : List Byte) (first n : Nat) : List (Option Phrase) :=
  (parsePhraseArgs args first n).foldl (fun d e => d.set e.1 (s.writtenEntry e.2)) s.su.directory

theorem State.writtenRun_succ (s : State) (args : List Byte) (first n : Nat) :
    s.writtenRun args first (n + 1) =
      (s.writtenRun args first n).set (first + n) (s.writtenEntry (parsePhraseArg args n)) := by
  simp [State.writtenRun, parsePhraseArgs, List.range_succ]

@[simp] theorem State.length_writtenRun (s : State) (args : List Byte) (first n : Nat) :
    (s.writtenRun args first n).length = s.su.directory.length :=
  foldl_keeps List.length _ (fun _ _ => List.length_set) _ _

theorem State.getElem?_writtenRun_outside {s : State} {args : List Byte} {first n q : Nat}
    (hq : q < first ∨ first + n ≤ q) : (s.writtenRun args first n)[q]? = s.su.directory[q]? := by
  induction n with
  | zero => rfl
  | succ n ih => rw [State.writtenRun_succ, List.getElem?_set_ne (by omega), ih (by omega)]

theorem State.getElem?_writtenRun_inside {s : State} {args : List Byte} {first n k : Nat} (hk : k < n)
    (hl : first + n ≤ s.su.directory.length) :
    (s.writtenRun args first n)[first + k]? = some (s.writtenEntry (parsePhraseArg args k)) := by
  induction n with
  | zero => omega
  | succ n ih =>
    rw [State.writtenRun_succ]
    by_cases hkn : k = n
    · subst hkn
      rw [List.getElem?_set_self (by rw [State.length_writtenRun]; omega)]
    · rw [List.getElem?_set_ne (by omega), ih (by omega) (by omega)]

/-- Settles O42: no check fails, and the run is written entry by entry. -/
theorem phraseWritesEntries : Obligations.PhraseWritesEntries := by
  intro s ref args h hdir h1 h2 h3 hn hrun hplace hfree hfit
  have hnone : s.phraseRefusal (field16 args 0) (field8 args 2)
      (parsePhraseArgs args (field16 args 0) (field8 args 2)) = none := by
    rw [State.phraseRefusal, if_neg (by omega), if_neg (by omega),
      phraseAtFault_eq_none fun j hj hbad => unplaced_iff.1 hbad ((hplace j hj).symm.imp And.left id),
      phraseAtFault_eq_none fun j hj hbad => by
        obtain ⟨hw, hl⟩ := emptied_iff.1 hbad
        rcases hplace j hj with h255 | ⟨-, hne⟩
        · omega
        · exact hne hl,
      phraseAtFault_eq_none fun j hj hbad => by
        obtain ⟨c, hc, x, hx, hp⟩ := State.captureTarget_iff.1 hbad
        exact hfree j hj c hc x hx hp,
      phraseAtFault_eq_none fun j hj hbad => by
        obtain ⟨hmap, hw, hout⟩ := State.unfit_iff.1 hbad
        obtain ⟨hattr, hroom⟩ := hfit hmap j hj hw
        exact hout.elim hattr (Nat.not_lt.2 hroom)]
  refine ⟨s.writtenRun args (field16 args 0) (field8 args 2), ?_, by rw [State.length_writtenRun, hdir],
    fun q _ hq => State.getElem?_writtenRun_outside hq, fun k hk => ?_⟩
  · rw [exec_phrase, State.takeMessage_of_ready h, takePhrase, if_neg (by
      simpa using lengthCounts_phrase_iff.2 ⟨h1, h2, h3⟩)]
    dsimp only
    rw [hnone]
    rfl
  · rw [State.getElem?_writtenRun_inside hk (by omega)]
    congr 1
    unfold State.writtenEntry
    rcases hplace k hk with h255 | ⟨h7, -⟩
    · rw [if_neg (mt isPresent_iff.1 (by omega)), if_pos h255]
    · rw [if_pos (isPresent_iff.2 h7), if_neg (c := field8 args (3 + 8 * k) = 255) (by omega)]
      rfl

/-! ### DIRECTORY CHECK -/

theorem State.recheck_eq (s : State) (e : Phrase) : s.recheck e = { e with state :=
    if (s.window e.window).attr ≠ .absent ∧ e.offset + e.length ≤ (s.window e.window).size * 4096 then .valid
    else .invalid } := by
  simp only [State.recheck, State.fits_iff]

theorem State.recheck_state (s : State) (e : Phrase) :
    (s.recheck e).state = .valid ∨ (s.recheck e).state = .invalid := by
  unfold State.recheck
  dsimp only
  split
  · exact .inl rfl
  · exact .inr rfl

theorem State.recheck_state_of_getElem? {s : State} {q : Nat} {e : Phrase}
    (h : (s.su.directory.map (Option.map s.recheck))[q]? = some (some e)) : e.state = .valid ∨ e.state = .invalid := by
  rw [List.getElem?_map] at h
  cases hq : s.su.directory[q]? with
  | none => rw [hq] at h; cases h
  | some o =>
    rw [hq] at h
    cases o with
    | none => cases h
    | some e' => cases h; exact s.recheck_state e'

theorem lowestInvalid_of_none {d : List (Option Phrase)} (h : entriesIn d .invalid = 0) : lowestInvalid d = 0xFFFF := by
  rw [lowestInvalid, List.findIdx?_eq_none_iff.2 fun x hx => by
    simpa using List.countP_eq_zero.1 h x hx]
  rfl

/-- The lowest INVALID phrase of a directory that has one. -/
theorem lowestInvalid_spec {d : List (Option Phrase)} (h : entriesIn d .invalid ≠ 0) :
    (∃ e, d[lowestInvalid d]? = some (some e) ∧ e.state = .invalid) ∧
      ∀ q < lowestInvalid d, ∀ e, d[q]? = some (some e) → e.state ≠ .invalid := by
  cases hi : d.findIdx? fun e => e.any fun x => x.state == .invalid with
  | none =>
    refine absurd (List.countP_eq_zero.2 fun x hx => ?_) h
    simpa using List.findIdx?_eq_none_iff.1 hi x hx
  | some i =>
    obtain ⟨hl, hinv, hbefore⟩ := List.findIdx?_eq_some_iff_getElem.1 hi
    have hlow : lowestInvalid d = i := by rw [lowestInvalid, hi]; rfl
    rw [hlow]
    obtain ⟨e, he, hst⟩ := (Option.any_eq_true ..).1 hinv
    refine ⟨⟨e, by rw [List.getElem?_eq_getElem hl, he], by simpa using hst⟩, fun q hq e' he' hst' => ?_⟩
    refine hbefore q hq ((Option.any_eq_true ..).2 ⟨e', ?_, by simpa using hst'⟩)
    exact (List.getElem?_eq_some_iff.1 he').2

/-- Settles O43: every entry is VALID or INVALID after the check, so the entries below the lowest INVALID one are VALID. -/
theorem directoryCheckOpensGate : Obligations.DirectoryCheckOpensGate := by
  intro s ref args h
  simp only [exec_directoryCheck, State.takeMessage_of_ready h]
  refine ⟨fun hne => ?_, fun hgate => ?_, fun hgate => ?_⟩
  · rw [takeDirectoryCheck, if_pos (by simpa using hne)]
    rfl
  · rw [takeDirectoryCheck, if_neg (by simp), if_pos hgate]
    rfl
  · rw [takeDirectoryCheck, if_neg (by simp), if_neg hgate]
    have hstate : ∀ q e, (s.su.directory.map (Option.map s.recheck))[q]? = some (some e) → _ :=
      fun q e he => State.recheck_state_of_getElem? he
    have hmap : s.su.directory.map (Option.map s.recheck) = s.su.directory.map (Option.map _) :=
      congrArg (fun f => s.su.directory.map (Option.map f)) (funext s.recheck_eq)
    generalize s.su.directory.map (Option.map s.recheck) = d at *
    refine ⟨d, entriesIn d .valid, entriesIn d .invalid, lowestInvalid d, rfl, hmap, by simp [entriesIn, beq_eq_decide],
      by simp [entriesIn, beq_eq_decide], lowestInvalid_of_none, fun hinv => ?_⟩
    obtain ⟨hlow, hbelow⟩ := lowestInvalid_spec hinv
    exact ⟨hlow, fun q hq e he => (hstate q e he).resolve_right (hbelow q hq e he)⟩

end Sys2Proof.Machine

/-! PROOF. The capture channels: CAPTURE START and CAPTURE STOP, the frame work of a recording, its endings (spec chapter 8). -/

namespace Sys2Proof.Machine

/-! ### CAPTURE START -/

theorem ite_or_same {α : Type} (a b : Bool) (x y : α) :
    (if (a || b) = true then x else y) = if a = true then x else if b = true then x else y := by
  cases a <;> cases b <;> rfl

/-- The checks of CAPTURE START, each as R131's table gives it. -/
theorem State.captureRefusal_eq (s : State) (args : List Byte) : s.captureRefusal args =
    let w := s.window (field8 args 5)
    let limit := min (max (field16 args 9) 1 * 80) (w.size * 4096 - field24 args 6)
    let start := w.base * 4096 + field24 args 6
    let meets (from' len : Nat) : Bool :=
      decide (0 < limit ∧ 0 < len ∧ start < from' + len ∧ from' < start + limit)
    if 1 < field8 args 0 then some .badParam
    else if (s.capture (field8 args 0)).isSome then some .captureBusy
    else if s.su.mapLoaded = false then some .noMap
    else if 7 < field8 args 5 then some .badParam
    else if w.attr ≠ .playRecord then some .notRecordable
    else if w.size * 4096 ≤ field24 args 6 then some .badParam
    else if 127 < field16 args 1 then some .badSlot
    else if s.rx.width ≤ field16 args 1 / 32 then some .laneAbsent
    else if s.map (field16 args 1 / 32) = none then some .laneDown
    else if 511 < field16 args 3 then some .badParam
    else if (List.range 2).any (fun c => (s.capture c).any fun x => x.phrase == field16 args 3) then some .inUse
    else if (List.range 2).any (fun c => (s.capture c).any fun x => meets x.start x.limit) then some .overlap
    else if (List.range 24).any (fun h => (s.headRun h).any fun r => meets r.start r.length) then some .overlap
    else none := by
  unfold State.captureRefusal
  have hmap : ∀ l, s.mapped l = false ↔ s.map l = none := fun l => by simp [State.mapped]
  simp only [ite_or_same, laneOfSlot, Bool.not_eq_true', hmap]
  rfl

theorem State.captureRecord_eq (s : State) (args : List Byte) : s.captureRecord args =
    { phase := if field16 args 11 = 0 then .recording else .waitingVoice (max (field8 args 13) 1 * 800)
      slot := field16 args 1, phrase := field16 args 3, window := field8 args 5, offset := field24 args 6
      start := (s.window (field8 args 5)).base * 4096 + field24 args 6
      limit := min (max (field16 args 9) 1 * 80) ((s.window (field8 args 5)).size * 4096 - field24 args 6)
      threshold := min (field16 args 11) 4095, voiceWait := max (field8 args 13) 1
      silenceHold := field8 args 14, written := 0, lastLoud := none, quiet := 0, suspects := 0, todo := false } := by
  have hclamp : min (field16 args 11) 4095 = 0 ↔ field16 args 11 = 0 := by omega
  simp only [State.captureRecord, hclamp]
  rfl

/-- Settles O44: the length, then R131's table; taken, the record alone. -/
theorem captureStartChecksAndSets : Obligations.CaptureStartChecksAndSets := by
  refine ⟨fun s ref args h => ⟨fun hl => ?_, fun hl cause hc => ?_, s.captureRefusal_eq args⟩,
    fun s ref args h hl hnone => ?_⟩ <;>
    rw [exec_captureStart, State.takeMessage_of_ready h, takeCaptureStart]
  · rw [if_pos (by simpa using hl)]
    rfl
  · rw [if_neg (by simpa using hl), hc]
    rfl
  · rw [if_neg (by simpa using hl), hnone, ← State.captureRecord_eq]
    rfl

/-! ### Endings -/

/-- What an ending of a recording leaves (R136, R103). -/
theorem State.endRecording_eq (s : State) (c : Nat) (x : Capture) (cause : CaptureCause) (n : Nat) :
    s.endRecording c x cause n =
      if n = 0 then ({ s with caps := s.caps.set c none } : State).queueOrdinary
        (.captureEnd c x.phrase .empty 0 x.suspects)
      else ({ s with
          su := { s.su with directory := s.su.directory.set x.phrase (some ⟨.valid, x.window, x.offset, n, 128⟩) }
          caps := s.caps.set c none } : State).queueOrdinary (.captureEnd c x.phrase cause n x.suspects) := rfl

/-- Settles O45: CAPTURE STOP ends the recording with every byte written. -/
theorem captureStopEndsChannel : Obligations.CaptureStopEndsChannel := by
  intro s ref args h
  rw [exec_captureStop, State.takeMessage_of_ready h, takeCaptureStop]
  refine ⟨fun hl => ?_, fun hl hc => ?_, fun hl hc hn => ?_, fun x hl hc hx => ?_⟩
  · rw [if_pos (by simpa using hl)]
    rfl
  all_goals rw [if_neg (by simpa using hl)]
  · rw [if_pos hc]
    rfl
  all_goals rw [if_neg (Nat.not_lt.2 hc)]
  · rw [if_pos (by simp [hn])]
    rfl
  · rw [if_neg (by simp [hx]), State.stopCapture, hx]
    exact congrArg _ (s.endRecording_eq ..)

theorem Capture.silent_iff {x : Capture} : x.silent = true ↔ 0 < x.silenceHold ∧ x.quiet = x.silenceHold * 80 := by
  simp [Capture.silent]

/-- Settles O47: each ending where it is due; a silence stands before a full recording. -/
theorem captureEndings : Obligations.CaptureEndings := by
  intro s c x hx
  refine ⟨fun hp => ?_, fun hp hw hs => ?_, fun hp hs => ?_⟩
  · have hdue : s.voiceDue c = true := by simp [State.voiceDue, hx, hp]
    rw [exec_voiceTimerExpiry, State.dueVoice, hdue, State.onDue, if_pos rfl, State.expireVoice, hx]
    rfl
  · have hdue : s.fullDue c = true := by
      simp [State.fullDue, hx, hp, hw, eq_false_of_ne_true (mt Capture.silent_iff.1 hs)]
    rw [exec_captureFull, State.dueFull, hdue, State.onDue, if_pos rfl, State.endFull, hx]
    exact congrArg _ (s.endRecording_eq ..)
  · have hdue : s.silenceDue c = true := by simp [State.silenceDue, hx, hp, Capture.silent_iff.2 hs]
    rw [exec_captureSilence, State.dueSilence, hdue, State.onDue, if_pos rfl, State.endSilence, hx]
    exact congrArg _ (s.endRecording_eq ..)

/-! ### The frame work of a recording -/

theorem Capture.loud_iff {x : Capture} {b : Byte} {suspect : Bool} :
    x.loud b suspect = true ↔ suspect = false ∧ x.threshold ≤ (decodeCode b).natAbs := by
  simp [Capture.loud, reaches]

theorem Capture.classify_eq {x : Capture} {b : Byte} {suspect : Bool} (hp : x.phase = .recording) :
    x.classify b suspect =
      if suspect = false ∧ x.threshold ≤ (decodeCode b).natAbs then
        { x with written := x.written + 1, lastLoud := some x.written, quiet := 0 }
      else if suspect then { x with written := x.written + 1, quiet := x.quiet + 1, suspects := x.suspects + 1 }
      else { x with written := x.written + 1, quiet := x.quiet + 1 } := by
  by_cases hl : x.loud b suspect = true
  · obtain ⟨rfl, ht⟩ := Capture.loud_iff.1 hl
    rw [if_pos ⟨rfl, ht⟩]
    simp [Capture.classify, hl, ← hp]
  · rw [if_neg (mt Capture.loud_iff.2 hl)]
    cases suspect <;> simp [Capture.classify, hl, ← hp]

/-- Settles O46: one store write, read back by the laws of the store. -/
theorem recordingWritesOneByte : Obligations.RecordingWritesOneByte := by
  intro s c x b suspect hlaw hp
  refine ⟨storeWrite s.su.store (x.start + x.written) (capturedByte b suspect), ?_,
    fun a ha => storeRead_storeWrite_other ha _, storeRead_storeWrite_same hlaw⟩
  rw [State.workCapture, hp]
  dsimp only
  rw [State.writeByte, Capture.classify_eq hp]
  simp only [State.setCapture]
  congr

end Sys2Proof.Machine

/-! PROOF. Going on and requests: what a request finds (R101, R111, R113, R114, R121), how a going on takes its steps
(R75 to R84), and how PLAY begins step 0 (R72, R73). -/

namespace Sys2Proof.Machine

/-! ### Playability -/

theorem overlaps_iff {a m b n : Nat} : overlaps a m b n = true ↔ ∃ x, b ≤ x ∧ x < b + n ∧ a ≤ x ∧ x < a + m := by
  rw [overlaps, decide_eq_true_iff]
  constructor
  · rintro ⟨h1, h2, h3, h4⟩
    exact ⟨max a b, by omega, by omega, by omega, by omega⟩
  · rintro ⟨x, h1, h2, h3, h4⟩
    omega

theorem State.heldByCapture_eq_false_iff {s : State} {start len : Nat} : s.heldByCapture start len = false ↔
    ∀ c < 2, ∀ x, s.capture c = some x → ∀ a, x.start ≤ a → a < x.start + x.limit →
      ¬ (start ≤ a ∧ a < start + len) := by
  simp only [State.heldByCapture, List.any_eq_false, List.mem_range, Option.any_eq_true, not_exists, not_and,
    overlaps_iff]

theorem State.playable_iff {s : State} {p : Nat} : s.playable p = true ↔
    p ≤ 511 ∧ s.su.gate = .isOpen ∧ ∃ e, s.entry p = some e ∧ e.state = .valid ∧
      ∀ c < 2, ∀ x, s.capture c = some x → ∀ a, x.start ≤ a → a < x.start + x.limit →
        ¬ ((s.window e.window).base * 4096 + e.offset ≤ a ∧
          a < (s.window e.window).base * 4096 + e.offset + e.length) := by
  unfold State.playable
  simp only [Bool.and_eq_true, decide_eq_true_eq, beq_iff_eq, Option.any_eq_true, Bool.not_eq_true',
    State.heldByCapture_eq_false_iff, and_assoc, State.startOf]

/-! ### The search for a head -/

theorem State.findHead_eq_some {s : State} {f : HeadRun → Bool} {h : Nat} {r : HeadRun} (hh : h < 24)
    (hr : s.headRun h = some r) (hf : f r = true) (hbefore : ∀ g < h, ∀ x, s.headRun g = some x → f x = false) :
    s.findHead f = some h := by
  refine List.find?_range_eq_some.2 ⟨by rw [hr]; exact hf, List.mem_range.2 hh, fun g hg => ?_⟩
  cases hx : s.headRun g with
  | none => rfl
  | some x => simp [hbefore g hg x hx]

theorem State.findHead_eq_none {s : State} {f : HeadRun → Bool}
    (h : ∀ g < 24, ∀ x, s.headRun g = some x → f x = false) : s.findHead f = none := by
  refine List.find?_range_eq_none.2 fun g hg => ?_
  cases hx : s.headRun g with
  | none => rfl
  | some x => simp [h g hg x hx]

theorem State.freeHead_eq_some {s : State} {h : Nat} (hh : h < 24) (hr : s.headRun h = none)
    (hbefore : ∀ g < h, s.headRun g ≠ none) : s.freeHead = some h :=
  List.find?_range_eq_some.2 ⟨by rw [hr]; rfl, List.mem_range.2 hh, fun g hg => by
    simpa [Option.isSome_iff_ne_none] using hbefore g hg⟩

theorem State.freeHead_eq_none {s : State} (h : ∀ g < 24, s.headRun g ≠ none) : s.freeHead = none :=
  List.find?_range_eq_none.2 fun g hg => by simpa [Option.isSome_iff_ne_none] using h g hg

theorem State.lingerLeft_eq_some_iff {s : State} {h t : Nat} :
    s.lingerLeft h = some t ↔ ∃ r, s.headRun h = some r ∧ r.phase = .linger t := by
  unfold State.lingerLeft
  cases hr : s.headRun h with
  | none => simp
  | some r => cases hp : r.phase <;> simp [hp]

/-- `best` is the LINGER head with the least time left among the heads below `n`, the lowest of several (R111). -/
def State.leastLinger (s : State) (n : Nat) : Option (Nat × Nat) → Prop
  | none => ∀ g < n, s.lingerLeft g = none
  | some (k, u) => k < n ∧ s.lingerLeft k = some u ∧ ∀ g < n, ∀ v, s.lingerLeft g = some v → u < v ∨ u = v ∧ k ≤ g

theorem State.leastLinger_foldl (s : State) : ∀ n,
    s.leastLinger n ((List.range n).foldl (fun best h => lessLinger best h (s.lingerLeft h)) none)
  | 0 => fun g hg => absurd hg (Nat.not_lt_zero g)
  | n + 1 => by
    have ih := State.leastLinger_foldl s n
    rw [List.range_succ, List.foldl_append, List.foldl_cons, List.foldl_nil]
    generalize (List.range n).foldl (fun best h => lessLinger best h (s.lingerLeft h)) none = best at ih ⊢
    have hsplit : ∀ g < n + 1, g < n ∨ g = n := fun g hg => by omega
    cases hl : s.lingerLeft n with
    | none =>
      rcases best with _ | ⟨k, u⟩
      · intro g hg
        rcases hsplit g hg with h | rfl
        · exact ih g h
        · exact hl
      · obtain ⟨hk, hku, hmin⟩ := ih
        refine ⟨by omega, hku, fun g hg v hv => ?_⟩
        rcases hsplit g hg with h | rfl
        · exact hmin g h v hv
        · rw [hl] at hv; cases hv
    | some t =>
      rcases best with _ | ⟨k, u⟩
      · refine ⟨Nat.lt_succ_self n, hl, fun g hg v hv => ?_⟩
        rcases hsplit g hg with h | rfl
        · rw [ih g h] at hv; cases hv
        · rw [hl] at hv; cases hv; omega
      · obtain ⟨hk, hku, hmin⟩ := ih
        unfold lessLinger
        dsimp only
        split
        · next htu =>
          refine ⟨Nat.lt_succ_self n, hl, fun g hg v hv => ?_⟩
          rcases hsplit g hg with h | rfl
          · have := hmin g h v hv; omega
          · rw [hl] at hv; cases hv; omega
        · next htu =>
          refine ⟨by omega, hku, fun g hg v hv => ?_⟩
          rcases hsplit g hg with h | rfl
          · exact hmin g h v hv
          · rw [hl] at hv; cases hv; omega

theorem State.lingerHead_eq_some {s : State} {h t : Nat} {r : HeadRun} (hh : h < 24) (hr : s.headRun h = some r)
    (hp : r.phase = .linger t) (hmin : ∀ g < 24, ∀ q left, s.headRun g = some q → q.phase = .linger left →
      t < left ∨ t = left ∧ h ≤ g) : s.lingerHead = some h := by
  have hspec := s.leastLinger_foldl 24
  have hleft := State.lingerLeft_eq_some_iff.2 ⟨r, hr, hp⟩
  unfold State.lingerHead
  rcases hbest : (List.range 24).foldl (fun best h => lessLinger best h (s.lingerLeft h)) none with _ | ⟨k, u⟩
  · rw [hbest] at hspec
    rw [hspec h hh] at hleft
    cases hleft
  · rw [hbest] at hspec
    obtain ⟨hk, hku, hleast⟩ := hspec
    obtain ⟨q, hq, hqp⟩ := State.lingerLeft_eq_some_iff.1 hku
    have h1 := hmin k hk q u hq hqp
    have h2 := hleast h hh t hleft
    rw [Option.map_some, show k = h by omega]

/-! ### Requests -/

theorem State.request_of_not_playable {s : State} {own : Bool} {slot p : Nat} {kind : ReqKind}
    (h : s.playable p = false) : s.request own slot p kind = none := by
  rw [State.request, if_neg (by simp [h])]

/-- The request of the context of `slot` has been noted in its record. -/
def State.asked (s : State) (slot p : Nat) (kind : ReqKind) : State :=
  s.modifyCtx slot fun c => { c with request := some (p, kind.mode) }

theorem State.request_of_joinable {s : State} {own : Bool} {slot p h : Nat} {kind : ReqKind}
    (hp : s.playable p = true) (hj : s.joinable p kind = some h) :
    s.request own slot p kind = some (((s.asked slot p kind).revive h).subscribe own slot h) := by
  rw [State.request, if_pos hp]
  dsimp only
  rw [show (s.modifyCtx slot _).joinable p kind = some h from hj]
  rfl

theorem State.request_of_spare {s : State} {own : Bool} {slot p h : Nat} {kind : ReqKind}
    (hp : s.playable p = true) (hj : s.joinable p kind = none) (hs : s.spareHead = some h) :
    s.request own slot p kind = some (((s.asked slot p kind).startHead h kind p).subscribe own slot h) := by
  rw [State.request, if_pos hp]
  dsimp only
  rw [show (s.modifyCtx slot _).joinable p kind = none from hj, show (s.modifyCtx slot _).spareHead = some h from hs]
  rfl

theorem State.request_of_none {s : State} {own : Bool} {slot p : Nat} {kind : ReqKind}
    (hp : s.playable p = true) (hj : s.joinable p kind = none) (hs : s.spareHead = none) :
    s.request own slot p kind = some ((s.asked slot p kind).enqueue slot p kind) := by
  rw [State.request, if_pos hp]
  dsimp only
  rw [show (s.modifyCtx slot _).joinable p kind = none from hj, show (s.modifyCtx slot _).spareHead = none from hs]
  rfl

theorem State.request_isSome {s : State} {own : Bool} {slot p : Nat} {kind : ReqKind}
    (hp : s.playable p = true) : ∃ t, s.request own slot p kind = some t := by
  cases hj : s.joinable p kind with
  | some h => exact ⟨_, State.request_of_joinable hp hj⟩
  | none =>
    cases hs : s.spareHead with
    | some h => exact ⟨_, State.request_of_spare hp hj hs⟩
    | none => exact ⟨_, State.request_of_none hp hj hs⟩

/-- R125: the urgent queue where the wait queue has grown by a waiter. -/
theorem queueNews_append (u : List Notice) (q : List Waiter) (w : Waiter) :
    (q ≠ [] → queueNews u q (q ++ [w]) = u) ∧
      (q = [] → .shortageEnd ∉ u → queueNews u q (q ++ [w]) = u ++ [.shortageBegin]) ∧
      (q = [] → .shortageEnd ∈ u → queueNews u q (q ++ [w]) = u.filter (· != .shortageEnd)) := by
  refine ⟨fun hq => queueNews_of_ne hq (by simp), ?_, ?_⟩ <;> rintro rfl hu <;> rw [queueNews_begins (by simp)]
  · exact shortageNoted_of_notMem (b := true) hu
  · exact shortageNoted_of_mem (b := true) hu

/-- Settles O29: a request that finds no head is an enqueuing. -/
theorem requestsAreAbandonedOrQueued : Obligations.RequestsAreAbandonedOrQueued := by
  intro s own slot p kind
  refine ⟨State.playable_iff, State.request_of_not_playable, fun hp hj hf hl => ?_⟩
  have hs : s.spareHead = none := by rw [State.spareHead, hf]; exact hl
  obtain ⟨h1, h2, h3⟩ := queueNews_append s.sender.urgent s.pool.queue ⟨slot, p, kind, s.pool.waitLimit * 800, false⟩
  refine ⟨_, State.request_of_none hp hj hs, ?_⟩
  have hback : ((s.asked slot p kind).enqueue slot p kind).backdrop = s.backdrop :=
    (State.backdrop_enqueue ..).trans (State.backdrop_modifyCtx ..)
  refine ⟨sameBackdrop_of_backdrop hback, ?_, ?_, ?_, fun k hk => ?_, fun hq => ?_, fun hq hu => ?_, fun hq hu => ?_⟩ <;>
    simp only [State.enqueue, State.asked, State.setQueue_pool, State.setQueue_sender, State.modifyCtx_pool,
      State.modifyCtx_sender]
  · rw [State.ctx_congr (congrArg Sequencer.contexts (State.setQueue_seq ..)), State.ctx_modifyCtx, if_pos rfl,
      State.ctx_modifyCtx, if_pos rfl, Option.map_map]
    rfl
  · rw [State.ctx_congr (congrArg Sequencer.contexts (State.setQueue_seq ..)), State.ctx_modifyCtx, if_neg hk,
      State.ctx_modifyCtx, if_neg hk]
  · rw [h1 hq]
  · rw [h2 hq hu]
  · rw [h3 hq hu]

/-! ### Joining a head -/

/-- What a head holds once it is joined: a LINGER one becomes RUNNING where it stands (R113). -/
def HeadRun.joined (r : HeadRun) : HeadRun :=
  { r with phase := match r.phase with | .gathering t => .gathering t | .running => .running | .linger _ => .running }

/-- A head given what it holds stays as it is. -/
theorem State.setHeadRun_self {s : State} {h : Nat} {r : HeadRun} (hr : s.headRun h = some r) :
    s.setHeadRun h (some r) = s := by
  have hl := State.lt_of_headRun hr
  have hhead : { run := some r, sample := (s.head h).sample } = s.pool.heads[h] := by
    rw [← hr, State.headRun, State.head_eq, List.getElem?_eq_getElem hl]
    rfl
  rw [State.setHeadRun_eq_set hr, hhead, List.set_getElem_self]
  rfl

theorem State.revive_eq {s : State} {h : Nat} {r : HeadRun} (hr : s.headRun h = some r) :
    s.revive h = s.setHeadRun h (some r.joined) := by
  have hself : r.phase = r.joined.phase → s = s.setHeadRun h (some r.joined) := fun hp => by
    have hj : r.joined = r := by
      calc r.joined = { r with phase := r.joined.phase } := rfl
        _ = r := by rw [← hp]
    rw [hj, State.setHeadRun_self hr]
  unfold State.revive
  rw [hr]
  dsimp only
  cases hp : r.phase with
  | gathering t => exact hself (by simp [HeadRun.joined, hp])
  | running => exact hself (by simp [HeadRun.joined, hp])
  | linger t => simp [HeadRun.joined, hp]

/-- The record of a context after it has subscribed to a head that holds `r`. -/
def Ctx.subscribed (c : Ctx) (own : Bool) (h : Nat) (r : HeadRun) : Ctx :=
  if r.hasRead then (c.bind h r (joinMark own r).1 (joinMark own r).2).countAt r.offset
  else c.bind h r (joinMark own r).1 (joinMark own r).2

theorem State.subscribe_eq {s : State} {own : Bool} {slot h : Nat} {r : HeadRun} (hr : s.headRun h = some r) :
    s.subscribe own slot h = s.modifyCtx slot fun c => c.subscribed own h r := by
  unfold State.subscribe
  rw [hr]
  rfl

theorem Ctx.countAt_eq (c : Ctx) (o : Nat) : ∃ n b, c.countAt o = { c with cycles := n, finished := b } := by
  unfold Ctx.countAt
  split
  · exact ⟨_, _, rfl⟩
  · exact ⟨c.cycles, c.finished, rfl⟩

theorem Ctx.subscribed_eq (c : Ctx) (own : Bool) (h : Nat) (r : HeadRun) : ∃ n b, c.subscribed own h r =
    { c.bind h r (joinMark own r).1 (joinMark own r).2 with cycles := n, finished := b } := by
  unfold Ctx.subscribed
  split
  · exact Ctx.countAt_eq ..
  · exact ⟨_, _, rfl⟩

theorem Ctx.subscribed_of_notHears {c : Ctx} {own : Bool} {h : Nat} {r : HeadRun} (hm : (joinMark own r).2 = false) :
    c.subscribed own h r = c.bind h r (joinMark own r).1 false := by
  unfold Ctx.subscribed
  rw [hm]
  split
  · exact if_neg (by simp [Ctx.bind])
  · rfl

theorem joinMark_of_arrived {r : HeadRun} {o : Nat} (h : r.arrived = some o) : joinMark true r = (o, true) := by
  simp [joinMark, h]

theorem joinMark_of_hasRead {r : HeadRun} (h : r.hasRead = true) : joinMark false r = (r.offset, false) := by
  unfold joinMark
  cases r.arrived <;> simp [h]

theorem State.joinable_gather {s : State} {h : Nat} {r : HeadRun} (hh : h < 24) (hr : s.headRun h = some r)
    (hg : ∃ timer, r.phase = .gathering timer)
    (hbefore : ∀ g < h, ∀ x, s.headRun g = some x → x.phrase = r.phrase → ∀ timer, x.phase ≠ .gathering timer) :
    s.joinable r.phrase .gather = some h := by
  obtain ⟨timer, hg⟩ := hg
  refine State.findHead_eq_some hh hr (by simp [hg]) fun g hgh x hx => ?_
  by_cases hp : x.phrase = r.phrase
  · cases hph : x.phase with
    | gathering t => exact absurd hph (hbefore g hgh x hx hp t)
    | running => simp
    | linger t => simp
  · simp [hp]

theorem State.joinable_loop {s : State} {h : Nat} {r : HeadRun} (hh : h < 24) (hr : s.headRun h = some r)
    (hm : r.mode = .cyclic) (hg : ∀ timer, r.phase ≠ .gathering timer)
    (hbefore : ∀ g < h, ∀ x, s.headRun g = some x → x.phrase = r.phrase → x.mode = .cyclic →
      ∃ timer, x.phase = .gathering timer) : s.joinable r.phrase .loop = some h := by
  refine State.findHead_eq_some hh hr ?_ fun g hgh x hx => ?_
  · cases hph : r.phase with
    | gathering t => exact absurd hph (hg t)
    | running => simp [hm]
    | linger t => simp [hm]
  · by_cases hp : x.phrase = r.phrase
    · cases hmx : x.mode with
      | once => simp
      | cyclic =>
        obtain ⟨t, ht⟩ := hbefore g hgh x hx hp hmx
        simp [ht]
    · simp [hp]

/-- Settles O30: the lowest head found is joined as it stands, a LINGER one revived. -/
theorem requestsJoinRunningHeads : Obligations.RequestsJoinRunningHeads := by
  rintro s own slot p h kind c r hplay hc hh hr rfl hkind
  have hjoin : s.joinable r.phrase kind = some h ∧
      r.joined.phase = (if kind = .loop then .running else r.phase) ∧
      (r.joined.phase = .running ∨ ∃ t, r.joined.phase = .gathering t ∧ kind ≠ .loop) := by
    rcases hkind with ⟨rfl, hg, hb⟩ | ⟨rfl, hm, hg, hb⟩
    · refine ⟨State.joinable_gather hh hr hg hb, ?_⟩
      obtain ⟨t, ht⟩ := hg
      simp [HeadRun.joined, ht]
    · refine ⟨State.joinable_loop hh hr hm hg hb, ?_⟩
      cases hp : r.phase with
      | gathering t => exact absurd hp (hg t)
      | running => simp [HeadRun.joined, hp]
      | linger t => simp [HeadRun.joined, hp]
  obtain ⟨hjoin, hphase, hstate⟩ := hjoin
  have hrun : ((s.asked slot r.phrase kind).revive h).headRun h = some r.joined := by
    rw [State.revive_eq (s := s.asked slot r.phrase kind) hr]
    exact State.headRun_setHeadRun_same (State.lt_of_headRun (s := s.asked slot r.phrase kind) hr)
  have ht := State.request_of_joinable (own := own) (slot := slot) hplay hjoin
  rw [State.subscribe_eq hrun, State.revive_eq (s := s.asked slot r.phrase kind) hr] at ht
  obtain ⟨n, b, hd⟩ := Ctx.subscribed_eq { c with request := some (r.phrase, kind.mode) } own h r.joined
  have hctx : ∀ k, (((s.asked slot r.phrase kind).setHeadRun h (some r.joined)).modifyCtx slot fun c =>
      c.subscribed own h r.joined).ctx k = if k = slot then
        some (Ctx.subscribed { c with request := some (r.phrase, kind.mode) } own h r.joined) else s.ctx k := fun k => by
    rw [State.ctx_modifyCtx, State.ctx_congr (t := State.setHeadRun ..) (s := s.asked slot r.phrase kind) rfl,
      State.ctx_congr (t := State.setHeadRun ..) (s := s.asked slot r.phrase kind) rfl, State.asked,
      State.ctx_modifyCtx, State.ctx_modifyCtx, if_pos rfl, hc]
    split
    · rfl
    · rfl
  refine ⟨_, ht, sameBackdrop_of_backdrop rfl, rfl, rfl, ?_, fun g hg => ?_, fun k hk => ?_,
    _, (hctx slot).trans (if_pos rfl), ?_⟩
  · rw [← hphase]
    exact (State.headRun_setHeadRun_same (State.lt_of_headRun hr)).trans (by rfl)
  · exact State.head_setHeadRun_ne hg
  · exact (hctx k).trans (if_neg hk)
  · refine ⟨by rw [hd]; rfl, by rw [hd]; rfl, ?_, by rw [hd]; rfl, by rw [hd]; rfl, ?_, ?_⟩
    · rw [hd]
      rcases hstate with hrunning | ⟨t, ht, hne⟩
      · have : kind = .loop := by
          by_contra hne
          rcases hkind with ⟨-, ⟨t, htg⟩, -⟩ | ⟨rfl, -⟩
          · rw [hphase, if_neg hne, htg] at hrunning; cases hrunning
          · exact hne rfl
        simp [Ctx.bind, hrunning, this]
      · simp [Ctx.bind, ht, hne]
    · rintro - rfl o ho
      rw [hd, joinMark_of_arrived (r := r.joined) ho]
      exact ⟨rfl, rfl⟩
    · rintro - rfl hread
      have hmark := joinMark_of_hasRead (r := r.joined) hread
      rw [Ctx.subscribed_of_notHears (by rw [hmark]), hmark]
      exact ⟨rfl, rfl, rfl⟩

end Sys2Proof.Machine

/-! PROOF. Going on, act by act (R75 to R84, R87), and how PLAY begins step 0 (R72, R73). -/

namespace Sys2Proof.Machine

/-! ### A context replaced -/

@[simp] theorem State.setCtx_setCtx (s : State) (k : Nat) (c d : Option Ctx) :
    (s.setCtx k c).setCtx k d = s.setCtx k d := by
  simp only [State.setCtx, State.setContexts, List.set_set]

theorem State.setCtx_self {s : State} {k : Nat} {c : Ctx} (h : s.ctx k = some c) : s.setCtx k (some c) = s := by
  obtain ⟨hl, hget⟩ := List.getElem?_eq_some_iff.1 (State.getElem?_of_ctx h)
  simp only [State.setCtx, State.setContexts, ← hget, List.set_getElem_self]

theorem State.ctx_now {s : State} {k : Nat} {c : Ctx} (h : s.ctx k = some c) (d : Ctx) :
    (s.setCtx k (some d)).ctx k = some d := State.ctx_setCtx_same (State.lt_of_ctx h)

/-! ### One act of a going on -/

section Acts

variable {s u : State} {own : Bool} {slot : Nat} {c : Ctx} {t : Template}

theorem State.goOn_of_stop (hc : s.ctx slot = some c) (ht : s.template c.template = some t)
    (hb : s.beginStep own slot c t = .stop u) (n : Nat) : State.goOn own slot (n + 1) s = u := by
  rw [State.goOn, hc]
  dsimp only
  rw [ht]
  dsimp only
  rw [hb]

theorem State.goOn_of_pass (hc : s.ctx slot = some c) (ht : s.template c.template = some t)
    (hb : s.beginStep own slot c t = .pass u) (n : Nat) : State.goOn own slot (n + 1) s = State.goOn own slot n u := by
  rw [State.goOn, hc]
  dsimp only
  rw [ht]
  dsimp only
  rw [hb]

theorem State.goOn_of_over (hc : s.ctx slot = some c) (ht : s.template c.template = some t)
    (hb : s.beginStep own slot c t = .over) (n : Nat) :
    State.goOn own slot (n + 1) s = s.endProgrammes [slot] .completed := by
  rw [State.goOn, hc]
  dsimp only
  rw [ht]
  dsimp only
  rw [hb]

theorem State.goOnSlot_eq (hc : s.ctx slot = some c) (ht : s.template c.template = some t) :
    s.goOnSlot own slot = State.goOn own slot (goingOnBound c t) s := by
  rw [State.goOnSlot, hc]
  dsimp only
  rw [ht]

/-- A going on has acts enough for a step that is there, the digit after it and the step after that (R76). -/
theorem goingOnBound_of_step {i : Nat} {st : Step} (h : t.steps[i]? = some st) (c : Ctx) :
    ∃ n, goingOnBound c t = n + 3 := by
  have hl := (List.getElem?_eq_some_iff.1 h).1
  exact ⟨2 * t.steps.length + c.params.length - 1, by unfold goingOnBound; omega⟩

theorem State.beginStep_silence {d : Nat} (h : t.steps[c.step]? = some (.silence d)) :
    s.beginStep own slot c t = .stop (s.setCtx slot (some (c.beginTimed (some (80 * d))))) := by
  rw [State.beginStep, h]

theorem State.beginStep_tone {tone cadence d : Nat} (h : t.steps[c.step]? = some (.tone tone cadence d)) :
    s.beginStep own slot c t =
      .stop (s.setCtx slot (some (c.beginTimed (if d = 0 then none else some (80 * d))))) := by
  rw [State.beginStep, h]

theorem State.beginStep_phrase {p : Nat} (h : t.steps[c.step]? = some (.phrase p)) :
    s.beginStep own slot c t = s.answer own slot p .gather := by
  rw [State.beginStep, h]

theorem State.beginStep_loop {p cycles : Nat} (h : t.steps[c.step]? = some (.loop p cycles)) :
    s.beginStep own slot c t = (s.setCtx slot (some { c with cycles })).answer own slot p .loop := by
  rw [State.beginStep, h]

theorem State.beginStep_digit {base count : Nat} (h : t.steps[c.step]? = some (.digits base count))
    (hd : 0 < c.digitsLeft) :
    s.beginStep own slot c t = s.answer own slot (base + c.params.getD c.cursor 0) .digit := by
  rw [State.beginStep, h]
  exact if_pos hd

theorem State.beginStep_noDigits {base count : Nat} (h : t.steps[c.step]? = some (.digits base count))
    (hd : c.digitsLeft = 0) (h0 : c.digitsFor count = 0) :
    s.beginStep own slot c t = .pass (s.setCtx slot (some c.nextStep)) := by
  rw [State.beginStep, h]
  dsimp only
  rw [if_neg (by omega), if_pos h0]

theorem State.beginStep_digits {base count : Nat} (h : t.steps[c.step]? = some (.digits base count))
    (hd : c.digitsLeft = 0) (h0 : c.digitsFor count ≠ 0) :
    s.beginStep own slot c t = .pass (s.setCtx slot (some { c with digitsLeft := c.digitsFor count })) := by
  rw [State.beginStep, h]
  dsimp only
  rw [if_neg (by omega), if_neg h0]

theorem State.beginStep_rep_jump {target times : Nat} (h : t.steps[c.step]? = some (.rep target times)) {d : Ctx}
    (hr : c.repeatStep (repIndex t.steps c.step) target times = (d, true)) :
    s.beginStep own slot c t = .stop (s.setCtx slot (some d)) := by
  rw [State.beginStep, h]
  dsimp only
  rw [hr]
  rfl

theorem State.beginStep_rep_pass {target times : Nat} (h : t.steps[c.step]? = some (.rep target times)) {d : Ctx}
    (hr : c.repeatStep (repIndex t.steps c.step) target times = (d, false)) :
    s.beginStep own slot c t = .pass (s.setCtx slot (some d)) := by
  rw [State.beginStep, h]
  dsimp only
  rw [hr]
  rfl

theorem State.answer_of_request {p : Nat} {kind : ReqKind} (h : s.request own slot p kind = some u) :
    s.answer own slot p kind = .stop u := by
  rw [State.answer, h]

theorem State.answer_of_not_playable {p : Nat} {kind : ReqKind} (hc : s.ctx slot = some c) (h : s.playable p = false) :
    s.answer own slot p kind = .pass (s.setCtx slot (some c.pass.skip)) := by
  rw [State.answer, State.request_of_not_playable h]
  exact congrArg _ (State.modifyCtx_eq_setCtx hc _)

/-- The going on reaches a SILENCE step: TIMED with its frames (R77). -/
theorem State.goOn_silence {d : Nat} (hc : s.ctx slot = some c) (ht : s.template c.template = some t)
    (h : t.steps[c.step]? = some (.silence d)) (n : Nat) :
    State.goOn own slot (n + 1) s = s.setCtx slot (some (c.beginTimed (some (80 * d)))) :=
  State.goOn_of_stop hc ht (State.beginStep_silence h) n

end Acts

theorem Ctx.pass_of_noDigits {c : Ctx} (h : c.digitsLeft = 0) : c.pass = c.unbind.nextStep := by
  rw [Ctx.pass, if_neg (by omega)]

theorem Ctx.pass_of_digits {c : Ctx} (h : 0 < c.digitsLeft) : c.pass = c.unbind.nextDigit := by
  rw [Ctx.pass, if_pos h]

section Digits

variable {s : State} {own : Bool} {slot : Nat} {c d : Ctx} {t : Template} {base count n : Nat}

/-- A digit asked for in a going on (R80). -/
theorem State.goOn_digit (hc : s.ctx slot = some c) (ht : s.template d.template = some t)
    (hstep : t.steps[d.step]? = some (.digits base count)) (hd : 0 < d.digitsLeft) (m : Nat)
    (hp : s.playable (base + d.params.getD d.cursor 0) = true) :
    some (State.goOn own slot (m + 1) (s.setCtx slot (some d))) =
      (s.setCtx slot (some d)).request own slot (base + d.params.getD d.cursor 0) .digit := by
  obtain ⟨u, hu⟩ := State.request_isSome (s := s.setCtx slot (some d)) (own := own) (slot := slot) (kind := .digit) hp
  rw [State.goOn_of_stop (State.ctx_now hc d) ht ((State.beginStep_digit hstep hd).trans (State.answer_of_request hu)),
    hu]

/-- A digit passed over in a going on (R81, R84). -/
theorem State.goOn_digit_skipped (hc : s.ctx slot = some c) (ht : s.template d.template = some t)
    (hstep : t.steps[d.step]? = some (.digits base count)) (hd : 0 < d.digitsLeft) (m : Nat)
    (hp : s.playable (base + d.params.getD d.cursor 0) = false) :
    State.goOn own slot (m + 1) (s.setCtx slot (some d)) =
      State.goOn own slot m (s.setCtx slot (some d.unbind.nextDigit.skip)) := by
  have hnow := State.ctx_now hc d
  rw [State.goOn_of_pass hnow ht ((State.beginStep_digit hstep hd).trans (State.answer_of_not_playable hnow hp)),
    State.setCtx_setCtx, Ctx.pass_of_digits hd]

end Digits

/-- Settles O28: the acts of a going on one after another. -/
theorem goingOnTakesSteps : Obligations.GoingOnTakesSteps := by
  intro s own slot c t hc ht
  have hslot := State.goOnSlot_eq (own := own) hc ht
  refine ⟨fun hover => ?_, fun tone cadence d h => ?_, fun d h => ?_, fun p h hp => ?_, fun p cycles h hp => ?_,
    fun target times h => ⟨fun h0 => ?_, fun h0 hmore => ?_, fun d h0 hone hsil => ?_⟩, fun p d h hdig hp hsil => ?_,
    fun base count h => ⟨fun d hdig hnone hsil => ?_, fun n hn => ?_⟩⟩
  · rw [hslot, goingOnBound]
    exact State.goOn_of_over hc ht (by rw [State.beginStep, List.getElem?_eq_none hover]) _
  · obtain ⟨n, hb⟩ := goingOnBound_of_step h c
    rw [hslot, hb]
    exact State.goOn_of_stop hc ht (State.beginStep_tone h) _
  · obtain ⟨n, hb⟩ := goingOnBound_of_step h c
    rw [hslot, hb]
    exact State.goOn_silence hc ht h _
  · obtain ⟨n, hb⟩ := goingOnBound_of_step h c
    obtain ⟨u, hu⟩ := State.request_isSome (own := own) (slot := slot) (kind := .gather) hp
    rw [hslot, hb, hu, State.goOn_of_stop hc ht ((State.beginStep_phrase h).trans (State.answer_of_request hu))]
  · obtain ⟨n, hb⟩ := goingOnBound_of_step h c
    obtain ⟨u, hu⟩ := State.request_isSome (s := s.setCtx slot (some { c with cycles })) (own := own) (slot := slot)
      (kind := .loop) hp
    rw [hslot, hb, State.goOn_of_stop hc ht ((State.beginStep_loop h).trans (State.answer_of_request hu))]
    exact hu.symm
  · obtain ⟨n, hb⟩ := goingOnBound_of_step h c
    rw [hslot, hb]
    exact State.goOn_of_stop hc ht (State.beginStep_rep_jump h (if_pos h0)) _
  · obtain ⟨n, hb⟩ := goingOnBound_of_step h c
    rw [hslot, hb]
    exact State.goOn_of_stop hc ht (State.beginStep_rep_jump h ((if_neg h0).trans (if_pos hmore))) _
  · obtain ⟨n, hb⟩ := goingOnBound_of_step h c
    have hpass := State.beginStep_rep_pass (s := s) (own := own) (slot := slot) h
      ((if_neg h0).trans (if_neg (Nat.not_lt.2 (Nat.le_of_eq hone))))
    rw [hslot, hb, State.goOn_of_pass hc ht hpass]
    exact (State.goOn_silence (c := { c.nextStep with counters := c.counters.set (repIndex t.steps c.step) times })
      (State.ctx_now hc _) ht hsil _).trans (State.setCtx_setCtx ..)
  · obtain ⟨st, hst⟩ : ∃ st, t.steps[c.step]? = some st := by
      rcases h with h | ⟨cycles, h⟩
      · exact ⟨_, h⟩
      · exact ⟨_, h⟩
    obtain ⟨n, hb⟩ := goingOnBound_of_step hst c
    have hpass : ∃ e : Ctx, s.beginStep own slot c t = .pass (s.setCtx slot (some e)) ∧
        e = c.unbind.nextStep.skip := by
      rcases h with h | ⟨cycles, h⟩
      · refine ⟨_, (State.beginStep_phrase h).trans (State.answer_of_not_playable hc hp), ?_⟩
        rw [Ctx.pass_of_noDigits hdig]
      · refine ⟨_, (State.beginStep_loop h).trans ((State.answer_of_not_playable (State.ctx_now hc _) hp).trans ?_), rfl⟩
        rw [State.setCtx_setCtx, Ctx.pass_of_noDigits (c := { c with cycles }) hdig]
        rfl
    obtain ⟨e, hpass, rfl⟩ := hpass
    rw [hslot, hb, State.goOn_of_pass hc ht hpass,
      State.goOn_silence (c := c.unbind.nextStep.skip) (State.ctx_now hc _) ht hsil, State.setCtx_setCtx]
    exact ⟨_, rfl, sameBackdrop_of_backdrop rfl, rfl, rfl, fun k hk => State.ctx_setCtx_ne hk, _, State.ctx_now hc _, rfl,
      rfl, rfl, rfl, rfl, rfl, rfl, rfl, rfl, rfl⟩
  · obtain ⟨n, hb⟩ := goingOnBound_of_step h c
    rw [hslot, hb, State.goOn_of_pass hc ht (State.beginStep_noDigits h hdig hnone)]
    exact (State.goOn_silence (c := c.nextStep) (State.ctx_now hc _) ht hsil _).trans (State.setCtx_setCtx ..)
  · -- the digits are set, or were set before
    obtain ⟨m, hgo⟩ : ∃ m, s.goOnSlot own slot =
        State.goOn own slot (m + 2) (s.setCtx slot (some { c with digitsLeft := n + 1 })) := by
      obtain ⟨m, hb⟩ := goingOnBound_of_step h c
      by_cases hdig : c.digitsLeft = 0
      · rw [if_pos hdig] at hn
        have hfor : c.digitsFor count = n + 1 := hn
        refine ⟨m, ?_⟩
        rw [hslot, hb, State.goOn_of_pass hc ht (State.beginStep_digits h hdig (by omega)), hfor]
      · rw [if_neg hdig] at hn
        refine ⟨m + 1, ?_⟩
        rw [hslot, hb, ← hn, State.setCtx_self (c := c) hc]
    have hpos : 0 < ({ c with digitsLeft := n + 1 } : Ctx).digitsLeft := Nat.succ_pos n
    refine ⟨fun hp => by
      rw [hgo]; exact State.goOn_digit (d := { c with digitsLeft := n + 1 }) hc ht h hpos _ hp, fun hp => ?_⟩
    rw [hgo, State.goOn_digit_skipped (d := { c with digitsLeft := n + 1 }) hc ht h hpos _ hp]
    refine ⟨fun d hn0 hsil => ?_, fun hn0 hp' => ?_⟩
    · subst hn0
      exact (State.goOn_silence (c := ({ c with digitsLeft := 0 + 1 } : Ctx).unbind.nextDigit.skip)
        (State.ctx_now hc _) ht hsil _).trans (State.setCtx_setCtx ..)
    · have hnext : ({ c with digitsLeft := n + 1 } : Ctx).unbind.nextDigit.skip = { c with
          cursor := c.cursor + 1, digitsLeft := n, skipped := min 255 (c.skipped + 1), head := none, request := none
          position := 0, mark := 0, cycles := 0, finished := false, hears := false } := by
        have hstay : ({ c with digitsLeft := n + 1 } : Ctx).unbind.nextDigit.skip.step = c.step :=
          if_neg (show ¬ n + 1 ≤ 1 by omega)
        simp only [Ctx.skip, Ctx.nextDigit] at hstay ⊢
        rw [hstay]
        rfl
      rw [hnext]
      refine State.goOn_digit (t := t) (count := count) hc ?_ ?_ ?_ m ?_
      · exact ht
      · exact h
      · exact hn0
      · exact hp'

end Sys2Proof.Machine

/-! PROOF. Leaving the Head Pool: what becomes of the programmes, of the head left and of the wait queue (R85, R119, R124,
R125); STOP and PLAY in terms of it. -/

namespace Sys2Proof.Machine

@[simp] theorem State.ctx_setHeadRun (s : State) (h : Nat) (r : Option HeadRun) (k : Nat) :
    (s.setHeadRun h r).ctx k = s.ctx k := rfl

@[simp] theorem State.ctx_setQueue (s : State) (q : List Waiter) (k : Nat) : (s.setQueue q).ctx k = s.ctx k :=
  State.ctx_congr (congrArg Sequencer.contexts (State.setQueue_seq s q)) k

/-! ### The programmes that stay -/

/-- Every programme of `s` but those of `away` is live in `t` on the same slot. -/
def State.Endures (s : State) (away : List Nat) (t : State) : Prop :=
  ∀ j ∉ away, ∀ x, s.ctx j = some x → ∃ y, t.ctx j = some y ∧ x.Kin y

theorem State.keptByPool_endures (s : State) (away : List Nat) : KeptByPool (s.Endures away) where
  modifyCtx t k f hf hP j hj x hx := by
    obtain ⟨y, hy, hxy⟩ := hP j hj x hx
    rw [State.ctx_modifyCtx]
    split
    · next hjk =>
      subst hjk
      exact ⟨f y, by rw [hy]; rfl, hxy.trans (hf y hy)⟩
    · exact ⟨y, hy, hxy⟩
  setHeadRun _ _ _ _ _ hP := hP
  setQueue t q _ hP j hj x hx := by
    rw [State.ctx_setQueue]
    exact hP j hj x hx
  queueOrdinary t n hP j hj x hx := by
    rw [State.ctx_congr (congrArg Sequencer.contexts (State.queueOrdinary_seq t n))]
    exact hP j hj x hx

/-- The contexts of `slots` are free. -/
def State.freed (s : State) (slots : List Nat) : State := slots.foldl (fun t slot => t.setCtx slot none) s

theorem State.ctx_freed (s : State) (l : List Nat) (k : Nat) : (s.freed l).ctx k = if k ∈ l then none else s.ctx k := by
  unfold State.freed
  induction l generalizing s with
  | nil => rfl
  | cons j l ih =>
    rw [List.foldl_cons, ih, State.ctx_setCtx_none]
    by_cases hl : k ∈ l
    · simp [hl]
    · by_cases hj : k = j <;> simp [hl, hj]

theorem State.leavePool_eq (s : State) (l : List Nat) : s.leavePool l =
    ((s.freed l).setQueue ((s.freed l).pool.queue.filter fun w => !l.contains w.slot)).settleHeads (s.headsOf l) := rfl

@[simp] theorem State.freed_pool (s : State) (l : List Nat) : (s.freed l).pool = s.pool :=
  foldl_keeps State.pool (fun t k => t.setCtx k none) (fun _ _ => rfl) l s
@[simp] theorem State.freed_sender (s : State) (l : List Nat) : (s.freed l).sender = s.sender :=
  foldl_keeps State.sender (fun t k => t.setCtx k none) (fun _ _ => rfl) l s

/-- What the freeing leaves is kept by the leaving and the notices behind it. -/
theorem KeptByPool.endProgrammes_of_freed {P : State → Prop} (K : KeptByPool P) {s : State} {l : List Nat}
    {cause : EndCause} (h : P (s.freed l)) : P (s.endProgrammes l cause) :=
  K.queueAll _ _ (K.settleHeads _ _ (K.filterQueue _ _ h))

theorem State.endProgrammes_ended {s : State} {l : List Nat} {cause : EndCause} {k : Nat} (hk : k ∈ l) :
    (s.endProgrammes l cause).ctx k = none := by
  have hd := (s.freed l).keptByPool_descends.endProgrammes_of_freed (s := s) (l := l) (cause := cause)
    (State.descends_refl _)
  by_contra hne
  obtain ⟨y, hy⟩ := Option.ne_none_iff_exists'.1 hne
  obtain ⟨x, hx, -⟩ := hd k y hy
  rw [State.ctx_freed, if_pos hk] at hx
  cases hx

theorem State.endures_endProgrammes (s : State) (l : List Nat) (cause : EndCause) :
    s.Endures l (s.endProgrammes l cause) := by
  refine (s.keptByPool_endures l).endProgrammes_of_freed fun j hj x hx => ⟨x, ?_, .refl x⟩
  rw [State.ctx_freed, if_neg hj, hx]

/-- A programme that stays is live as before (R85). -/
theorem State.endProgrammes_stays {s : State} {l : List Nat} {cause : EndCause} {k : Nat} (hk : k ∉ l) :
    ((s.endProgrammes l cause).ctx k).isSome = (s.ctx k).isSome ∧
      ∀ x y, s.ctx k = some x → (s.endProgrammes l cause).ctx k = some y → x.Kin y := by
  have hend := s.endures_endProgrammes l cause k hk
  have hdesc := s.descends_endProgrammes l cause k
  constructor
  · rw [Bool.eq_iff_iff, Option.isSome_iff_exists, Option.isSome_iff_exists]
    exact ⟨fun ⟨y, hy⟩ => ⟨_, (hdesc y hy).choose_spec.1⟩, fun ⟨x, hx⟩ => ⟨_, (hend x hx).choose_spec.1⟩⟩
  · intro x y hx hy
    obtain ⟨z, hz, hxz⟩ := hend x hx
    rw [hy] at hz
    cases hz
    exact hxz

/-! ### The ordinary queue under the Head Pool -/

/-- The ordinary queue and the drop count. -/
def State.mail (s : State) : List Notice × Nat := (s.sender.ordinary, s.sender.drops)

@[simp] theorem State.mail_setQueue (s : State) (q : List Waiter) : (s.setQueue q).mail = s.mail := by
  simp [State.mail]
@[simp] theorem State.mail_modifyCtxs (s : State) (l : List Nat) (f : Ctx → Ctx) : (s.modifyCtxs l f).mail = s.mail := by
  simp [State.mail]
@[simp] theorem State.mail_startHead (s : State) (h : Nat) (kind : ReqKind) (p : Nat) :
    (s.startHead h kind p).mail = s.mail := by unfold State.startHead; split <;> rfl
@[simp] theorem State.mail_grantTo (s : State) (h k : Nat) : (s.grantTo h k).mail = s.mail := by
  unfold State.grantTo; split <;> rfl
@[simp] theorem State.mail_restHead (s : State) (h : Nat) : (s.restHead h).mail = s.mail := by
  unfold State.restHead; (repeat' split) <;> rfl

@[simp] theorem State.mail_offer (s : State) (h : Nat) : (s.offer h).mail = s.mail := by
  unfold State.offer
  dsimp only
  split
  · simp
  · rw [State.mail_setQueue, foldl_keeps State.mail _ (fun t k => t.mail_grantTo h k), State.mail_startHead,
      State.mail_modifyCtxs]

@[simp] theorem State.mail_settleHeads (s : State) (l : List Nat) : (s.settleHeads l).mail = s.mail := by
  unfold State.settleHeads
  dsimp only
  rw [foldl_keeps State.mail _ (fun t h => by split <;> simp), foldl_keeps State.mail _ (fun t h => t.mail_restHead h)]

@[simp] theorem State.mail_leavePool (s : State) (l : List Nat) : (s.leavePool l).mail = s.mail := by
  rw [State.leavePool_eq, State.mail_settleHeads, State.mail_setQueue]
  simp [State.mail]

/-! ### The wait queue under the Head Pool -/

theorem State.offer_queue_subset (s : State) (h : Nat) : (s.offer h).pool.queue ⊆ s.pool.queue := by
  unfold State.offer
  dsimp only
  split
  · simp
  · next w ws hrest =>
    rw [State.setQueue_pool]
    refine fun v hv => List.dropWhile_subset (fun w => !s.playable w.phrase) ?_
    rw [hrest]
    exact .tail w (List.mem_of_mem_filter hv)

@[simp] theorem State.restHead_queue (s : State) (h : Nat) : (s.restHead h).pool.queue = s.pool.queue := by
  unfold State.restHead; (repeat' split) <;> rfl

theorem State.settleHeads_queue_subset (s : State) (l : List Nat) : (s.settleHeads l).pool.queue ⊆ s.pool.queue := by
  unfold State.settleHeads
  refine foldl_inv (fun t : State => t.pool.queue ⊆ s.pool.queue) _ (fun t h ht => ?_) _ _ ?_
  · split
    · exact ht
    · exact List.Subset.trans (t.offer_queue_subset h) ht
  · rw [foldl_keeps (fun t : State => t.pool.queue) State.restHead (fun t h => t.restHead_queue h)]
    exact fun w hw => hw

theorem State.leavePool_queue {s : State} {l : List Nat} {w : Waiter} (hw : w ∈ (s.leavePool l).pool.queue) :
    w ∈ s.pool.queue ∧ w.slot ∉ l := by
  rw [State.leavePool_eq] at hw
  have h := State.settleHeads_queue_subset _ _ hw
  rw [State.setQueue_pool, State.freed_pool] at h
  obtain ⟨hm, hl⟩ := List.mem_filter.1 h
  exact ⟨hm, by simpa using hl⟩

/-- R125: the urgent queue where waiters have left a queue that was not empty. -/
theorem queueNews_left {u : List Notice} {old new : List Waiter} (ho : old ≠ []) :
    (new ≠ [] → queueNews u old new = u) ∧
      (new = [] → .shortageBegin ∉ u → queueNews u old new = u ++ [.shortageEnd]) ∧
      (new = [] → .shortageBegin ∈ u → queueNews u old new = u.filter (· != .shortageBegin)) := by
  refine ⟨fun hn => queueNews_of_ne ho hn, ?_, ?_⟩ <;> rintro rfl hu <;> rw [queueNews_empties ho]
  · exact shortageNoted_of_notMem (b := false) hu
  · exact shortageNoted_of_mem (b := false) hu

/-- A queue in which none of `l` waits is the same without them. -/
theorem State.setQueue_filter_of_notWaiting {s : State} {l : List Nat} (h : ∀ w ∈ s.pool.queue, w.slot ∉ l) :
    s.setQueue (s.pool.queue.filter fun w => !l.contains w.slot) = s :=
  State.setQueue_self (List.filter_eq_self.2 fun w hw => by simpa using h w hw)

/-! ### The head left -/

@[simp] theorem State.settleHeads_nil (s : State) : s.settleHeads [] = s := by simp [State.settleHeads]

theorem filter_range_single {n h : Nat} (hh : h < n) (b : Nat → Bool) :
    (List.range n).filter (fun g => [h].contains g && b g) = if b h then [h] else [] := by
  have heq : (fun g => [h].contains g && b g) = fun g => (g == h) && b h := by
    funext g
    by_cases hg : g = h <;> simp [hg]
  rw [heq]
  cases hb : b h
  · simp
  · simp only [Bool.and_true, if_true]
    rw [List.filter_beq, List.count_eq_one_of_mem List.nodup_range (List.mem_range.2 hh)]
    rfl

theorem State.settleHeads_single {s : State} {h : Nat} (hh : h < 24) : s.settleHeads [h] =
    if s.emptied h then (if s.pool.queue = [] then s.restHead h else (s.restHead h).offer h) else s := by
  unfold State.settleHeads
  dsimp only
  rw [filter_range_single hh]
  split
  · rw [List.foldl_cons, List.foldl_nil, List.foldl_cons, List.foldl_nil, State.restHead_queue]
    simp only [List.isEmpty_iff]
  · rfl

/-- What a head left by all holds next (R119). -/
theorem State.restedRun_eq (s : State) (r : HeadRun) : s.restedRun r =
    if r.mode = .once then none else match r.phase with
      | .gathering _ => none
      | .running => if s.pool.lingerTime = 0 then none
        else some { r with phase := .linger (s.pool.lingerTime * 800), counts := false }
      | .linger _ => some r := by
  obtain ⟨phase, mode, phrase, start, length, trim, offset, arrived, hasRead, counts⟩ := r
  cases mode <;> cases phase <;> rfl

theorem State.mem_subscribers {s : State} {h k : Nat} :
    k ∈ s.subscribers h ↔ k < 128 ∧ ∃ c, s.ctx k = some c ∧ c.head = some h := by
  simp [State.subscribers, Option.any_eq_true]

theorem State.nodup_subscribers (s : State) (h : Nat) : (s.subscribers h).Nodup := List.nodup_range.filter _

theorem State.emptied_iff {s : State} {h : Nat} {r : HeadRun} (hr : s.headRun h = some r) : s.emptied h = true ↔
    ∀ k < 128, ∀ c, s.ctx k = some c → c.head ≠ some h := by
  rw [State.emptied, hr, Option.isSome_some, Bool.true_and, List.isEmpty_iff, List.eq_nil_iff_forall_not_mem]
  simp only [State.mem_subscribers, not_and, not_exists]

theorem State.restHead_of_emptied {s : State} {h : Nat} {r : HeadRun} (hr : s.headRun h = some r)
    (he : s.emptied h = true) : s.restHead h = s.setHeadRun h (s.restedRun r) := by
  rw [State.restHead, hr]
  exact if_pos he

/-! ### The ending of one programme -/

/-- The state with the END notice of the programme that `slot` had, where it held a tag (R85). -/
def State.noted (s : State) (slot : Nat) (cause : EndCause) (c : Ctx) : State :=
  match c.tag with
  | some tag => s.queueOrdinary (.ended slot tag cause c.skipped)
  | none => s

theorem State.endProgrammes_single {s : State} {slot : Nat} {cause : EndCause} {c : Ctx} (hc : s.ctx slot = some c) :
    s.endProgrammes [slot] cause = (s.leavePool [slot]).noted slot cause c := by
  unfold State.endProgrammes State.noted
  rw [List.flatMap_cons, List.flatMap_nil, List.append_nil, hc, endNotice]
  cases c.tag <;> rfl

theorem State.headsOf_single {s : State} {slot : Nat} {c : Ctx} (hc : s.ctx slot = some c) :
    s.headsOf [slot] = c.head.toList := by
  unfold State.headsOf
  rw [List.filterMap_cons, hc, List.filterMap_nil, Option.bind_some]
  cases c.head <;> rfl

/-- A programme that neither waits nor is bound to a head leaves nothing behind but its context. -/
theorem State.leavePool_of_apart {s : State} {slot : Nat} {c : Ctx} (hc : s.ctx slot = some c) (hh : c.head = none)
    (hw : ∀ w ∈ s.pool.queue, w.slot ≠ slot) : s.leavePool [slot] = s.setCtx slot none := by
  rw [State.leavePool_eq, State.headsOf_single hc, hh, Option.toList_none, State.settleHeads_nil,
    State.setQueue_filter_of_notWaiting (s := s.freed [slot]) (by simpa using hw)]
  rfl

theorem State.setCtx_noted (s : State) (slot k : Nat) (cause : EndCause) (c : Ctx) (d : Option Ctx) :
    (s.noted slot cause c).setCtx k d = (s.setCtx k d).noted slot cause c := by
  unfold State.noted
  cases c.tag with
  | none => rfl
  | some tag => simp only [State.queueOrdinary_eq]; rfl

/-! ### STOP -/

theorem exec_stop_of_live {s : State} {ref : Byte} {args : List Byte} {c : Ctx} (h : s.ready = true)
    (hl : args.length = 2) (hs : field16 args 0 ≤ 127) (hc : s.ctx (field16 args 0) = some c) :
    exec (.stop ref args) s = .next ((s.leavePool [field16 args 0]).noted (field16 args 0) .stopped c) := by
  rw [exec_stop, State.takeMessage_of_ready h, takeStop, if_neg (by simpa using hl), if_neg (Nat.not_lt.2 hs),
    if_neg (by simp [hc]), State.endProgrammes_single hc]

theorem State.mail_noted_congr {s t : State} {slot : Nat} {cause : EndCause} {c : Ctx} (h : t.mail = s.mail) :
    (t.noted slot cause c).sender.ordinary = (s.noted slot cause c).sender.ordinary ∧
      (t.noted slot cause c).sender.drops = (s.noted slot cause c).sender.drops := by
  obtain ⟨ho, hd⟩ := Prod.ext_iff.1 h
  unfold State.noted
  cases c.tag with
  | none => exact ⟨ho, hd⟩
  | some tag =>
    simp only [State.queueOrdinary_sender]
    exact ReportSender.foldl_note_congr [_] ho hd

theorem State.noted_pool (s : State) (slot : Nat) (cause : EndCause) (c : Ctx) :
    (s.noted slot cause c).pool = s.pool := by
  unfold State.noted; split <;> simp

theorem State.noted_urgent (s : State) (slot : Nat) (cause : EndCause) (c : Ctx) :
    (s.noted slot cause c).sender.urgent = s.sender.urgent := by
  unfold State.noted; split <;> simp

theorem State.noted_seq (s : State) (slot : Nat) (cause : EndCause) (c : Ctx) : (s.noted slot cause c).seq = s.seq := by
  unfold State.noted; split <;> simp

/-- Settles O31: a STOP is the leaving of its programme with the END notice behind it. -/
theorem stopEndsProgramme : Obligations.StopEndsProgramme := by
  refine ⟨fun s ref args h => ⟨fun hl => ?_, fun hl hs => ?_, fun hl hs hc => ?_, fun c hl hs hc hh hw => ?_⟩,
    fun s ref args c h hl hs hc => ⟨⟨s.endProgrammes [field16 args 0] .stopped, ?_, ?_, ?_, ?_, ?_, ?_, ?_⟩,
      fun j r hh hj hr hw => ⟨fun ⟨k, hk, hne, d, hd, hdh⟩ => ?_, fun hall => ?_⟩, fun hh hw => ?_⟩⟩
  · rw [exec_stop, State.takeMessage_of_ready h, takeStop, if_pos (by simpa using hl)]
    rfl
  · rw [exec_stop, State.takeMessage_of_ready h, takeStop, if_neg (by simpa using hl), if_pos hs]
    rfl
  · rw [exec_stop, State.takeMessage_of_ready h, takeStop, if_neg (by simpa using hl), if_neg (Nat.not_lt.2 hs),
      if_pos (by simp [hc])]
    rfl
  · rw [exec_stop_of_live h hl hs hc, State.leavePool_of_apart hc hh hw]
    rfl
  · rw [exec_stop_of_live h hl hs hc, State.endProgrammes_single hc]
  · exact sameBackdrop_of_backdrop (State.backdrop_endProgrammes ..)
  · exact State.endProgrammes_ended (List.mem_singleton.2 rfl)
  · intro w hw
    rw [State.endProgrammes_single hc, State.noted_pool] at hw
    simpa using (State.leavePool_queue hw).2
  · rw [State.endProgrammes_single hc]
    exact (State.mail_noted_congr (s.mail_leavePool _)).1
  · rw [State.endProgrammes_single hc]
    exact (State.mail_noted_congr (s.mail_leavePool _)).2
  · intro k hk
    obtain ⟨hsome, hkin⟩ := State.endProgrammes_stays (s := s) (cause := .stopped) (mt List.mem_singleton.1 hk)
    exact ⟨hsome, fun x y hx hy => ⟨(hkin x y hx hy).template, (hkin x y hx hy).mode, (hkin x y hx hy).tag,
      (hkin x y hx hy).params⟩⟩
  all_goals rw [exec_stop_of_live h hl hs hc, State.leavePool_eq, State.headsOf_single hc, hh]
  · have hr' : (s.freed [field16 args 0]).headRun j = some r := hr
    have hne' : (s.freed [field16 args 0]).emptied j = false := by
      rw [← Bool.not_eq_true, State.emptied_iff hr']
      intro hall
      refine hall k hk d ?_ hdh
      rw [State.ctx_freed, if_neg (by simpa using hne), hd]
    rw [State.setQueue_filter_of_notWaiting (s := s.freed [field16 args 0]) (by simpa using hw), Option.toList_some,
      State.settleHeads_single hj, hne', if_neg Bool.false_ne_true]
    rfl
  · have hr' : (s.freed [field16 args 0]).headRun j = some r := hr
    have he : (s.freed [field16 args 0]).emptied j = true := by
      refine (State.emptied_iff hr').2 fun k hk d hd => ?_
      rw [State.ctx_freed] at hd
      split at hd
      · cases hd
      · next hkl => exact hall k hk (by simpa using hkl) d hd
    rw [State.setQueue_filter_of_notWaiting (s := s.freed [field16 args 0]) (by simpa using hw), Option.toList_some,
      State.settleHeads_single hj, if_pos he, State.restHead_of_emptied hr' he, State.setHeadRun_eq_set hr',
      State.restedRun_eq]
    rfl
  · obtain ⟨w, hwq, hws⟩ := hw
    have hq : s.pool.queue ≠ [] := fun h0 => by rw [h0] at hwq; cases hwq
    have hf : (s.freed [field16 args 0]).pool.queue.filter (fun w => !([field16 args 0] : List Nat).contains w.slot) =
        s.pool.queue.filter fun w => w.slot ≠ field16 args 0 := by
      rw [State.freed_pool]
      congr 1
      funext v
      simp
    obtain ⟨h1, h2, h3⟩ := queueNews_left (u := s.sender.urgent)
      (new := s.pool.queue.filter fun w => w.slot ≠ field16 args 0) hq
    rw [Option.toList_none, State.settleHeads_nil, hf]
    have hctx : ∀ (u : State) k, ((u.setQueue (s.pool.queue.filter fun w => w.slot ≠ field16 args 0)).noted
        (field16 args 0) .stopped c).ctx k = u.ctx k := fun u k => by
      rw [State.ctx_congr (congrArg Sequencer.contexts (State.noted_seq ..)), State.ctx_setQueue]
    refine ⟨_, rfl, ?_, ?_, fun k hk => by rw [hctx, State.ctx_freed, if_neg (by simpa using hk)], ?_⟩ <;>
      simp only [State.noted_pool, State.noted_urgent, State.setQueue_pool, State.setQueue_sender, State.freed_pool,
        State.freed_sender]
    exact ⟨h1, h2, h3⟩

/-! ### PLAY -/

theorem State.setCtx_of_length_le {s : State} {k : Nat} (h : s.seq.contexts.length ≤ k) (c : Option Ctx) :
    s.setCtx k c = s := by
  simp only [State.setCtx, State.setContexts, List.set_eq_of_length_le h]

/-- A context set to run a TONE or SILENCE step at once (R77). -/
theorem State.goOnSlot_timed {s : State} {own : Bool} {slot : Nat} {c : Ctx} {t : Template} {first : Step}
    {frames : Option Nat} (ht : s.template c.template = some t) (hstep : t.steps[c.step]? = some first)
    (hfirst : (∃ tone cadence duration, first = .tone tone cadence duration ∧
        frames = if duration = 0 then none else some (80 * duration)) ∨
      ∃ duration, first = .silence duration ∧ frames = some (80 * duration)) :
    (s.setCtx slot (some c)).goOnSlot own slot = s.setCtx slot (some (c.beginTimed frames)) := by
  by_cases hl : slot < s.seq.contexts.length
  · have hc : (s.setCtx slot (some c)).ctx slot = some c := State.ctx_setCtx_same hl
    obtain ⟨n, hb⟩ := goingOnBound_of_step hstep c
    rw [State.goOnSlot_eq hc ht, hb, ← State.setCtx_setCtx s slot (some c) (some (c.beginTimed frames))]
    rcases hfirst with ⟨tone, cadence, d, rfl, rfl⟩ | ⟨d, rfl, rfl⟩
    · exact State.goOn_of_stop hc ht (State.beginStep_tone hstep) _
    · exact State.goOn_silence hc ht hstep _
  · have hnone : s.ctx slot = none := by
      rw [State.ctx_eq, List.getElem?_eq_none (Nat.not_lt.1 hl)]
      rfl
    rw [State.setCtx_of_length_le (Nat.not_lt.1 hl), State.setCtx_of_length_le (Nat.not_lt.1 hl), State.goOnSlot, hnone]

/-- The record of a context once its PHRASE request has started head `h` (R111, R112). -/
theorem State.goOnSlot_phrase {s : State} {slot p h : Nat} {c : Ctx} {t : Template} {e : Phrase}
    (hc : s.ctx slot = some c) (ht : s.template c.template = some t) (hstep : t.steps[c.step]? = some (.phrase p))
    (hp : s.playable p = true) (he : s.entry p = some e) (hj : s.joinable p .gather = none) (hs : s.spareHead = some h)
    (hl : h < s.pool.heads.length) :
    s.goOnSlot false slot = ((s.asked slot p .gather).setHeadRun h (some (s.startedRun .gather p e))).modifyCtx slot
      fun c => c.bind h (s.startedRun .gather p e) 0 false := by
  obtain ⟨n, hb⟩ := goingOnBound_of_step hstep c
  have hstart : (s.asked slot p .gather).startHead h .gather p =
      (s.asked slot p .gather).setHeadRun h (some (s.startedRun .gather p e)) := by
    rw [State.startHead, show (s.asked slot p .gather).entry p = some e from he]
    rfl
  rw [State.goOnSlot_eq hc ht, hb, State.goOn_of_stop hc ht
    ((State.beginStep_phrase hstep).trans (State.answer_of_request (State.request_of_spare hp hj hs))), hstart]
  exact (State.subscribe_eq (State.headRun_setHeadRun_same (s := s.asked slot p .gather) hl)).trans rfl

theorem takePlay_taken {s : State} {ref : Byte} {args : List Byte} {t : Template} {m : Insertion}
    (hl : lengthCounts 9 1 6 args = true) (hr : s.playRefusal args = none)
    (hm : Insertion.ofCode (field8 args 3) = some m) (ht : s.template (field8 args 2) = some t) :
    takePlay ref args s =
      s.startProgramme (field16 args 0) (field8 args 2) m t (playParams args) (playTag args) := by
  rw [takePlay, if_neg (by simp [hl]), hr]
  dsimp only
  rw [hm, ht]

theorem slot_of_playRefusal {s : State} {args : List Byte} (h : s.playRefusal args = none) : field16 args 0 < 128 := by
  by_contra hge
  rw [State.playRefusal_eq, if_pos (by omega)] at h
  cases h

/-- Settles O27: the programme on the slot ends first; then step 0 is gone on to from the fresh record. -/
theorem playBeginsStepZero : Obligations.PlayBeginsStepZero := by
  intro s ref args t m h hlen hr hm ht slot fresh bound
  rw [exec_play, State.takeMessage_of_ready h, takePlay_taken hlen hr hm ht]
  refine ⟨fun first frames hstep hfirst => ⟨fun hc => ?_, fun c hc hh hw => ?_⟩,
    fun p h e hcl hhl hc hstep hp he hnone hh hspare => ?_⟩
  · rw [State.startProgramme, hc]
    exact congrArg _ (State.goOnSlot_timed (c := fresh) ht hstep hfirst)
  · rw [State.startProgramme, hc, Option.isSome_some, if_pos rfl, State.endProgrammes_single hc,
      State.leavePool_of_apart hc hh hw, State.setCtx_noted, State.setCtx_setCtx, ← State.setCtx_noted]
    have ht' : (s.noted slot .preempted c).template fresh.template = some t := by
      rw [State.template, State.noted_seq]
      exact ht
    refine congrArg _ ((State.goOnSlot_timed (c := fresh) ht' hstep hfirst).trans ?_)
    rw [State.setCtx_noted]
    rfl
  · have hlt : slot < s.seq.contexts.length := by rw [hcl]; exact slot_of_playRefusal hr
    have hfresh : (s.setCtx slot (some fresh)).ctx slot = some fresh := State.ctx_setCtx_same hlt
    have hjoin : s.joinable p .gather = none := by
      refine State.findHead_eq_none fun g hg r hgr => ?_
      by_cases hrp : r.phrase = p
      · cases hph : r.phase with
        | gathering timer => exact absurd hph (hnone g hg r hgr hrp timer)
        | running => simp
        | linger t => simp
      · simp [hrp]
    have hsp : s.spareHead = some h := by
      unfold State.spareHead
      rcases hspare with ⟨hfree, hbefore⟩ | ⟨hall, r, timer, hrun, hph, hmin⟩
      · rw [State.freeHead_eq_some hh hfree hbefore]
      · rw [State.freeHead_eq_none hall]
        exact State.lingerHead_eq_some hh hrun hph hmin
    have hh' : h < s.pool.heads.length := by rw [hhl]; exact hh
    have hgo := State.goOnSlot_phrase (s := s.setCtx slot (some fresh)) hfresh ht hstep hp he hjoin hsp hh'
    rw [State.startProgramme, hc]
    refine ⟨_, rfl, ?_⟩
    have hgo' : (s.setCtx slot (some (Ctx.started (field8 args 2) m t (playParams args) (playTag args)))).goOnSlot false
        slot = _ := hgo
    dsimp only [Option.isSome_none]
    rw [if_neg Bool.false_ne_true, hgo']
    refine ⟨sameBackdrop_of_backdrop rfl, rfl, rfl, State.headRun_setHeadRun_same hh',
      fun g hg => State.head_setHeadRun_ne hg, fun k hk => ?_, ?_⟩
    · rw [State.ctx_modifyCtx, if_neg hk, State.ctx_setHeadRun, State.asked, State.ctx_modifyCtx, if_neg hk,
        State.ctx_setCtx_ne hk]
    · rw [State.ctx_modifyCtx, if_pos rfl, State.ctx_setHeadRun, State.asked, State.ctx_modifyCtx, if_pos rfl, hfresh]
      by_cases hg : s.pool.gatherWindow = 0
      · simp [Ctx.bind, State.startedRun, hg, fresh, freshContext]
        rfl
      · simp [Ctx.bind, State.startedRun, hg, fresh, freshContext]
        rfl

end Sys2Proof.Machine

/-! PROOF. The Head Pool's events (R115 to R123), the offer (R122) and the change of map (R94, R126), each with what it leaves
to every context, head and waiter. -/

namespace Sys2Proof.Machine

/-! ### What the events leave alone -/

@[simp] theorem State.head_modifyCtxs (s : State) (l : List Nat) (f : Ctx → Ctx) (h : Nat) :
    (s.modifyCtxs l f).head h = s.head h := State.head_congr (congrArg HeadPool.heads (s.modifyCtxs_pool l f)) h

@[simp] theorem State.headRun_modifyCtxs (s : State) (l : List Nat) (f : Ctx → Ctx) (h : Nat) :
    (s.modifyCtxs l f).headRun h = s.headRun h := congrArg Head.run (s.head_modifyCtxs l f h)

@[simp] theorem State.head_setQueue (s : State) (q : List Waiter) (h : Nat) : (s.setQueue q).head h = s.head h :=
  State.head_congr (by simp) h

theorem State.ctx_modifyCtxs {s : State} {l : List Nat} (hn : l.Nodup) (f : Ctx → Ctx) (k : Nat) :
    (s.modifyCtxs l f).ctx k = if k ∈ l then (s.ctx k).map f else s.ctx k := by
  split
  · next h => exact State.ctx_modifyCtxs_of_mem hn h
  · next h => exact State.ctx_modifyCtxs_of_notMem h

theorem Ctx.complete_head (c : Ctx) : c.complete.head = none := by
  unfold Ctx.complete Ctx.pass; split <;> rfl

theorem Ctx.complete_of_noDigits {c : Ctx} (h : c.digitsLeft = 0) : c.complete =
    { c with step := c.step + 1, state := .pending, head := none, request := none, position := 0, mark := 0
             cycles := 0, finished := false, hears := false, news := true } := by
  rw [Ctx.complete, Ctx.pass_of_noDigits h]
  rfl

theorem Ctx.complete_of_digits {c : Ctx} (h : 0 < c.digitsLeft) : c.complete =
    { c with step := if c.digitsLeft ≤ 1 then c.step + 1 else c.step, cursor := c.cursor + 1
             digitsLeft := c.digitsLeft - 1, state := .pending, head := none, request := none, position := 0, mark := 0
             cycles := 0, finished := false, hears := false, news := true } := by
  rw [Ctx.complete, Ctx.pass_of_digits h]
  rfl

theorem Ctx.abandon_eq (c : Ctx) : c.abandon = { c.complete with skipped := min 255 (c.skipped + 1) } := by
  unfold Ctx.abandon Ctx.complete Ctx.skip Ctx.pass
  split <;> rfl

/-! ### Timers -/

/-- Settles O32: the subscribers, and no other context, have the news. -/
theorem gatherTimerStartsHead : Obligations.GatherTimerStartsHead := by
  intro s h r hr hp
  have hdue : s.gatherDue h = true := by simp [State.gatherDue, hr, hp]
  have hexec : exec (.gatherTimerExpiry h) s = .next ((s.setHeadRun h (some { r with
      phase := .running, offset := 0 })).modifyCtxs (s.subscribers h) Ctx.startPlaying) := by
    rw [exec_gatherTimerExpiry, State.dueGather, hdue, State.onDue, if_pos rfl, State.expireGather, hr]
  refine ⟨_, hexec, sameBackdrop_of_backdrop (by simp), by simp, by simp, ?_, fun g hg => ?_, fun k hk c hc hch => ?_,
    fun k hk => ?_⟩
  · rw [State.headRun_modifyCtxs, State.headRun_setHeadRun_same (State.lt_of_headRun hr)]
  · rw [State.head_modifyCtxs, State.head_setHeadRun_ne hg]
  · rw [State.ctx_modifyCtxs_of_mem (s.nodup_subscribers h) (State.mem_subscribers.2 ⟨hk, c, hc, hch⟩),
      State.ctx_setHeadRun, hc]
    rfl
  · rw [State.ctx_modifyCtxs_of_notMem fun hm => ?_, State.ctx_setHeadRun]
    obtain ⟨-, c, hc, hch⟩ := State.mem_subscribers.1 hm
    exact hk c hc hch

/-- Settles O33: each is one replacement. -/
theorem timedStepAndLingerEnd : Obligations.TimedStepAndLingerEnd := by
  refine ⟨fun s slot c hc hst hrem => ?_, fun s h r hr hp => ?_⟩
  · have hdue : s.timedEndDue slot = true := by simp [State.timedEndDue, hc, hst, hrem]
    rw [exec_timedStepEnd, State.dueTimedEnd, hdue, State.onDue, if_pos rfl, State.modifyCtx_eq_setCtx hc]
    rfl
  · have hdue : s.lingerDue h = true := by simp [State.lingerDue, hr, hp]
    rw [exec_lingerTimerExpiry, State.dueLinger, hdue, State.onDue, if_pos rfl, State.expireLinger,
      State.setHeadRun_eq_set hr]
    rfl

theorem State.settleEndings_of_worked {s : State} (h : s.worked = true) : s.settleEndings = s := by
  simp only [State.worked, Bool.and_eq_true] at h
  exact State.settleEndings_of_quiet h.1

/-- Settles O34: the waiter leaves the queue with its request abandoned. -/
theorem waitTimerAbandonsRequest : Obligations.WaitTimerAbandonsRequest := by
  intro s slot w c h hw hslot htimer hc hdig
  have hworked := State.worked_of_ready h
  have hdue : s.waitDue slot = true := List.any_eq_true.2 ⟨w, hw, by simp [hslot, htimer]⟩
  have hexec : exec (.waitTimerExpiry slot) s = .next (s.expireWait slot) := by
    rw [exec_waitTimerExpiry, State.settleEndings_of_worked hworked, State.dueOrder_of_worked hworked, State.dueWait,
      hdue, State.onDue, if_pos rfl]
  have hq : s.pool.queue ≠ [] := List.ne_nil_of_mem hw
  have hf : s.pool.queue.filter (fun v => v.slot != slot) = s.pool.queue.filter fun v => v.slot ≠ slot := by
    refine List.filter_congr fun v _ => ?_
    rw [Bool.eq_iff_iff]
    simp
  obtain ⟨h1, h2, h3⟩ := queueNews_left (u := s.sender.urgent) (new := s.pool.queue.filter fun v => v.slot ≠ slot) hq
  rw [State.expireWait, hf] at hexec
  refine ⟨_, hexec, sameBackdrop_of_backdrop (by simp), by simp, by simp, fun k hk => ?_, ?_, ?_⟩
  · rw [State.ctx_setQueue, State.ctx_modifyCtx, if_neg hk]
  · rw [State.ctx_setQueue, State.ctx_modifyCtx, if_pos rfl, hc, Option.map_some, Ctx.abandon_eq,
      Ctx.complete_of_noDigits hdig]
  · simp only [State.setQueue_pool, State.setQueue_sender, State.modifyCtx_pool, State.modifyCtx_sender]
    exact ⟨fun hn => by rw [h1 hn], fun hn hu => by rw [h2 hn hu], fun hn hu => by rw [h3 hn hu]⟩

/-! ### Completions -/

/-- What a completion leaves: the head rests where it is left by all, and is offered where a waiter stands (R117 to R119). -/
theorem State.completeOn_eq {s : State} {h : Nat} (hh : h < 24) (l : List Nat) : s.completeOn h l =
    if (s.modifyCtxs l Ctx.complete).emptied h then
      (if s.pool.queue = [] then (s.modifyCtxs l Ctx.complete).restHead h
        else ((s.modifyCtxs l Ctx.complete).restHead h).offer h)
    else s.modifyCtxs l Ctx.complete := by
  rw [State.completeOn, State.settleHeads_single hh, State.modifyCtxs_pool]

theorem State.emptied_complete_iff {s : State} {h : Nat} {r : HeadRun} (hr : s.headRun h = some r) {l : List Nat}
    (hn : l.Nodup) : (s.modifyCtxs l Ctx.complete).emptied h = true ↔ ∀ k ∈ s.subscribers h, k ∈ l := by
  rw [State.emptied_iff ((State.headRun_modifyCtxs ..).trans hr)]
  simp only [State.ctx_modifyCtxs hn, State.mem_subscribers]
  constructor
  · rintro hall k ⟨hk, c, hc, hch⟩
    by_contra hl
    exact hall k hk c (by rw [if_neg hl, hc]) hch
  · intro hall k hk c hc hch
    by_cases hl : k ∈ l
    · rw [if_pos hl] at hc
      obtain ⟨d, -, rfl⟩ := Option.map_eq_some_iff.1 hc
      rw [Ctx.complete_head] at hch
      cases hch
    · rw [if_neg hl] at hc
      exact hl (hall k ⟨hk, c, hc, hch⟩)

/-- Settles O35: all subscribers leave, and a ONCE head left by all is FREE. -/
theorem phraseCompletes : Obligations.PhraseCompletes := by
  intro s h r hh hr hm hp ho
  have hdue : s.phraseDue h = true := by simp [State.phraseDue, hr, hm, hp, ho]
  have hempty := (State.emptied_complete_iff hr (s.nodup_subscribers h)).2 fun k hk => hk
  have hrest : (s.modifyCtxs (s.subscribers h) Ctx.complete).restHead h =
      (s.modifyCtxs (s.subscribers h) Ctx.complete).setHeadRun h none := by
    rw [State.restHead_of_emptied ((State.headRun_modifyCtxs ..).trans hr) hempty, State.restedRun_eq, if_pos hm]
  refine ⟨(s.modifyCtxs (s.subscribers h) Ctx.complete).setHeadRun h none, ?_, sameBackdrop_of_backdrop (by simp),
    by simp, by simp, State.headRun_setHeadRun_none .., fun g hg => ?_, fun k hk c hc hch => ?_, fun k hk => ?_⟩
  · rw [exec_phraseComplete, State.duePhrase, hdue, State.onDue, if_pos rfl, State.completeOn_eq hh, if_pos hempty, hrest]
  · rw [State.head_setHeadRun_ne hg, State.head_modifyCtxs]
  · refine ⟨c.complete, ?_, rfl, c.complete_head, ?_, rfl, ?_, c.kin_complete.tag, c.kin_complete.params, fun h0 => ?_,
      fun h0 => ?_⟩
    · rw [State.ctx_setHeadRun, State.ctx_modifyCtxs_of_mem (s.nodup_subscribers h)
        (State.mem_subscribers.2 ⟨hk, c, hc, hch⟩), hc]
      rfl
    · unfold Ctx.complete Ctx.pass; split <;> rfl
    · unfold Ctx.complete Ctx.pass; split <;> rfl
    · rw [Ctx.complete_of_noDigits h0]
      exact ⟨rfl, rfl, h0⟩
    · rw [Ctx.complete_of_digits h0]
      refine ⟨rfl, rfl, ?_⟩
      by_cases h1 : c.digitsLeft = 1
      · rw [if_pos h1]
        exact if_pos (by omega)
      · rw [if_neg h1]
        exact if_neg (by omega)
  · rw [State.ctx_setHeadRun, State.ctx_modifyCtxs_of_notMem fun hm => ?_]
    obtain ⟨-, c, hc, hch⟩ := State.mem_subscribers.1 hm
    exact hk c hc hch

theorem State.mem_finishedOn {s : State} {h k : Nat} :
    k ∈ s.finishedOn h ↔ k < 128 ∧ ∃ c, s.ctx k = some c ∧ c.head = some h ∧ c.finished = true := by
  simp only [State.finishedOn, List.mem_filter, State.mem_subscribers, Option.any_eq_true]
  constructor
  · rintro ⟨⟨hk, c, hc, hch⟩, d, hd, hdf⟩
    rw [hc] at hd
    cases hd
    exact ⟨hk, c, hc, hch, hdf⟩
  · rintro ⟨hk, c, hc, hch, hcf⟩
    exact ⟨⟨hk, c, hc, hch⟩, c, hc, hcf⟩

/-- Settles O36: the finished subscribers leave; the head rests where they were all. -/
theorem loopCyclesComplete : Obligations.LoopCyclesComplete := by
  intro s h r hh hr hm hp hfin empties
  have hn : (s.finishedOn h).Nodup := (s.nodup_subscribers h).filter _
  have hiff : (s.modifyCtxs (s.finishedOn h) Ctx.complete).emptied h = true ↔ empties := State.emptied_complete_iff hr hn
  have hexec : exec (.loopCyclesComplete h) s = .next (s.completeOn h (s.finishedOn h)) := by
    rw [exec_loopCyclesComplete, State.dueLoop, State.onDue, if_pos (by simpa using hfin)]
  have hrest : s.restedRun r = if s.pool.lingerTime = 0 then none
      else some { r with phase := .linger (s.pool.lingerTime * 800), counts := false } := by
    rw [State.restedRun_eq, if_neg (by simp [hm]), hp]
  have hctx : ∀ k < 128, ∀ c, s.ctx k = some c → c.head = some h → c.finished = true → c.digitsLeft = 0 →
      (s.modifyCtxs (s.finishedOn h) Ctx.complete).ctx k = some { c with
        step := c.step + 1, state := .pending, head := none, request := none, position := 0, mark := 0
        cycles := 0, finished := false, hears := false, news := true } := fun k hk c hc hch hcf hd => by
    rw [State.ctx_modifyCtxs_of_mem hn (State.mem_finishedOn.2 ⟨hk, c, hc, hch, hcf⟩), hc, Option.map_some,
      Ctx.complete_of_noDigits hd]
  have hother : ∀ k, (∀ c, s.ctx k = some c → c.head = some h → c.finished = false) →
      (s.modifyCtxs (s.finishedOn h) Ctx.complete).ctx k = s.ctx k := fun k hk =>
    State.ctx_modifyCtxs_of_notMem fun hmem => by
      obtain ⟨-, c, hc, hch, hcf⟩ := State.mem_finishedOn.1 hmem
      rw [hk c hc hch] at hcf
      cases hcf
  rw [hexec, State.completeOn_eq hh]
  by_cases he : empties
  · have hset : (s.modifyCtxs (s.finishedOn h) Ctx.complete).restHead h =
        (s.modifyCtxs (s.finishedOn h) Ctx.complete).setHeadRun h (s.restedRun r) := by
      rw [State.restHead_of_emptied ((State.headRun_modifyCtxs ..).trans hr) (hiff.2 he), State.restedRun_eq,
        State.restedRun_eq, State.modifyCtxs_pool]
    rw [if_pos (hiff.2 he), hset]
    refine ⟨(s.modifyCtxs (s.finishedOn h) Ctx.complete).setHeadRun h (s.restedRun r), fun hq => ?_,
      fun hq _ => by rw [if_neg hq], sameBackdrop_of_backdrop (by simp), by simp, by simp,
      fun g hg => by rw [State.head_setHeadRun_ne hg, State.head_modifyCtxs], hctx, hother, fun _ => ?_,
      fun hne => absurd he hne⟩
    · rw [if_pos (hq.resolve_right fun hne => hne he)]
    · rw [State.headRun_setHeadRun_same (by simpa using State.lt_of_headRun hr), hrest]
  · rw [if_neg (mt hiff.1 he)]
    exact ⟨_, fun _ => rfl, fun _ he' => absurd he' he, sameBackdrop_of_backdrop (by simp), by simp, by simp,
      fun g _ => State.head_modifyCtxs .., hctx, hother, fun he' => absurd he' he,
      fun _ => (State.headRun_modifyCtxs ..).trans hr⟩

/-! ### Offers -/

/-- The record of a context that is granted a head which holds `r` (R122). -/
def Ctx.granted (h : Nat) (r : HeadRun) (c : Ctx) : Ctx := { c.bind h r 0 false with news := true }

theorem State.foldl_grantTo {h : Nat} {r : HeadRun} (l : List Nat) {s : State} (hr : s.headRun h = some r) :
    l.foldl (fun t slot => t.grantTo h slot) s = s.modifyCtxs l (Ctx.granted h r) := by
  induction l generalizing s with
  | nil => rfl
  | cons k l ih =>
    have hgrant : s.grantTo h k = s.modifyCtx k (Ctx.granted h r) := by
      rw [State.grantTo, hr]
      rfl
    rw [List.foldl_cons, hgrant]
    exact ih (s := s.modifyCtx k (Ctx.granted h r)) hr

theorem State.startedRun_congr {s t : State} (hsu : t.su = s.su) (hg : t.pool.gatherWindow = s.pool.gatherWindow)
    (kind : ReqKind) (p : Nat) (e : Phrase) : t.startedRun kind p e = s.startedRun kind p e := by
  simp only [State.startedRun, State.startOf, State.window, hsu, hg]

/-- An offer by the waiters it finds: those in front that are not playable, the one granted, and those behind it. -/
theorem State.offer_eq {s : State} {h : Nat} {bad rest : List Waiter} {w : Waiter} {e : Phrase}
    (hq : s.pool.queue = bad ++ w :: rest) (hbad : ∀ v ∈ bad, s.playable v.phrase = false)
    (hw : s.playable w.phrase = true) (he : s.entry w.phrase = some e) (hh : h < s.pool.heads.length) :
    s.offer h = ((((s.modifyCtxs (bad.map Waiter.slot) Ctx.abandon).setHeadRun h
      (some (s.startedRun w.kind w.phrase e))).modifyCtxs ((w :: rest.filter fun v => v.collapsesWith w).map Waiter.slot)
        (Ctx.granted h (s.startedRun w.kind w.phrase e))).setQueue (rest.filter fun v => !v.collapsesWith w)) := by
  have htake : s.pool.queue.takeWhile (fun w => !s.playable w.phrase) = bad := by
    rw [hq, List.takeWhile_append_of_pos (by simpa using hbad), List.takeWhile_cons_of_neg (by simp [hw]),
      List.append_nil]
  have hdrop : s.pool.queue.dropWhile (fun w => !s.playable w.phrase) = w :: rest := by
    rw [hq, List.dropWhile_append_of_pos (by simpa using hbad), List.dropWhile_cons_of_neg (by simp [hw])]
  have hsu : (s.modifyCtxs (bad.map Waiter.slot) Ctx.abandon).su = s.su :=
    State.su_of_backdrop (State.backdrop_modifyCtxs ..)
  have hstart : (s.modifyCtxs (bad.map Waiter.slot) Ctx.abandon).startHead h w.kind w.phrase =
      (s.modifyCtxs (bad.map Waiter.slot) Ctx.abandon).setHeadRun h (some (s.startedRun w.kind w.phrase e)) := by
    have he' : (s.modifyCtxs (bad.map Waiter.slot) Ctx.abandon).entry w.phrase = some e := by
      rw [State.entry, hsu]
      exact he
    rw [State.startHead, he']
    dsimp only
    rw [State.startedRun_congr hsu (by simp)]
  unfold State.offer
  dsimp only
  rw [htake, hdrop]
  dsimp only
  rw [hstart, State.foldl_grantTo _ (State.headRun_setHeadRun_same (by simpa using hh))]

/-- Settles O37: the waiters of the queue are on slots of their own, so each has its one change. -/
theorem offerGrantsAndCollapses : Obligations.OfferGrantsAndCollapses := by
  intro s h bad w rest e hq hbad hw he hh hnodup hlive goes
  rw [State.offer_eq hq hbad hw he hh]
  have hslots : (bad.map Waiter.slot ++ (w :: rest).map Waiter.slot).Nodup := by
    rwa [hq, List.map_append] at hnodup
  obtain ⟨hnb, hnr, hdisj⟩ := List.nodup_append'.1 hslots
  have hsub : (w :: rest.filter fun v => v.collapsesWith w).Sublist (w :: rest) := List.filter_sublist.cons_cons w
  have hnj : ((w :: rest.filter fun v => v.collapsesWith w).map Waiter.slot).Nodup := hnr.sublist (hsub.map _)
  have hctx : ∀ k, ((((s.modifyCtxs (bad.map Waiter.slot) Ctx.abandon).setHeadRun h
      (some (s.startedRun w.kind w.phrase e))).modifyCtxs ((w :: rest.filter fun v => v.collapsesWith w).map Waiter.slot)
        (Ctx.granted h (s.startedRun w.kind w.phrase e))).setQueue (rest.filter fun v => !v.collapsesWith w)).ctx k =
      if k ∈ (w :: rest.filter fun v => v.collapsesWith w).map Waiter.slot then
        (s.ctx k).map (Ctx.granted h (s.startedRun w.kind w.phrase e))
      else if k ∈ bad.map Waiter.slot then (s.ctx k).map Ctx.abandon else s.ctx k := fun k => by
    rw [State.ctx_setQueue, State.ctx_modifyCtxs hnj, State.ctx_setHeadRun, State.ctx_modifyCtxs hnb]
    split
    · next hk =>
      rw [if_neg fun hb => hdisj hb ((hsub.map Waiter.slot).subset hk)]
    · rfl
  refine ⟨by simp [goes, Waiter.collapsesWith], sameBackdrop_of_backdrop (by simp), ?_, fun g hg => ?_, fun v hv => ?_,
    fun v hv => ?_, fun k hk => ?_⟩
  · rw [State.headRun, State.head_setQueue, State.head_modifyCtxs, ← State.headRun,
      State.headRun_setHeadRun_same (by simpa using hh)]
    cases hk : w.kind with
    | gather => by_cases hg : s.pool.gatherWindow = 0 <;> simp [State.startedRun, State.startOf, ReqKind.mode, hg]
    | digit => rfl
    | loop => rfl
  · rw [State.head_setQueue, State.head_modifyCtxs, State.head_setHeadRun_ne hg, State.head_modifyCtxs]
  · have hmem : v ∈ w :: rest.filter fun v => v.collapsesWith w := List.mem_cons.2 hv
    obtain ⟨c, hc⟩ := hlive v (by rw [hq]; exact List.mem_append_right _ (hsub.subset hmem))
    refine ⟨c.granted h (s.startedRun w.kind w.phrase e), ?_, rfl, rfl, rfl, ?_⟩
    · rw [hctx, if_pos (List.mem_map_of_mem hmem), hc]
      rfl
    · cases hk : w.kind with
      | gather => by_cases hg : s.pool.gatherWindow = 0 <;> simp [Ctx.granted, Ctx.bind, State.startedRun, hg]
      | digit => rfl
      | loop => rfl
  · obtain ⟨c, hc⟩ := hlive v (by rw [hq]; exact List.mem_append_left _ hv)
    refine ⟨c, c.abandon, hc, ?_, rfl, ?_, ?_, ?_⟩
    · rw [hctx, if_neg fun hj => hdisj (List.mem_map_of_mem hv) ((hsub.map Waiter.slot).subset hj),
        if_pos (List.mem_map_of_mem hv), hc]
      rfl
    · rw [Ctx.abandon_eq]
      exact c.complete_head
    · unfold Ctx.abandon Ctx.pass; split <;> rfl
    · unfold Ctx.abandon Ctx.pass; split <;> rfl
  · have hnot : ∀ l : List Waiter, l ⊆ s.pool.queue → k ∉ l.map Waiter.slot := fun l hl hm => by
      obtain ⟨v, hv, hvk⟩ := List.mem_map.1 hm
      exact hk v (hl hv) hvk
    rw [hctx, if_neg (hnot _ fun v hv => by rw [hq]; exact List.mem_append_right _ (hsub.subset hv)),
      if_neg (hnot _ fun v hv => by rw [hq]; exact List.mem_append_left _ hv)]

end Sys2Proof.Machine

/-! PROOF. WINDOW MAP: the first window at fault, and the stages of a change of map (R93, R94, R126, R138). -/

namespace Sys2Proof.Machine

/-! ### Windows -/

theorem parseWindow_eq_none_iff {args : List Byte} {k : Nat} : parseWindow args k = none ↔
    ¬ windowInRange (field8 args (5 * k)) (field16 args (5 * k + 1)) (field16 args (5 * k + 3)) := by
  unfold parseWindow windowInRange
  dsimp only
  split_ifs <;> simp only [true_iff, false_iff, not_not] <;> omega

theorem parseWindow_of_inRange {args : List Byte} {k : Nat}
    (h : windowInRange (field8 args (5 * k)) (field16 args (5 * k + 1)) (field16 args (5 * k + 3))) :
    parseWindow args k = some (if field8 args (5 * k) = 0 then ⟨.absent, 0, 0⟩
      else ⟨if field8 args (5 * k) = 1 then .play else .playRecord, field16 args (5 * k + 1),
        field16 args (5 * k + 3)⟩) := by
  unfold windowInRange at h
  unfold parseWindow
  dsimp only
  by_cases h0 : field8 args (5 * k) = 0
  · rw [if_pos h0, if_pos h0]
  · rw [if_neg h0, if_neg h0, if_pos (by omega), if_neg (by omega)]

theorem takeWindowMap_of_fault {s : State} {ref : Byte} {args : List Byte} {k : Nat} (hl : args.length = 40) (hk : k < 8)
    (hbefore : ∀ j < k, windowInRange (field8 args (5 * j)) (field16 args (5 * j + 1)) (field16 args (5 * j + 3)))
    (hbad : ¬ windowInRange (field8 args (5 * k)) (field16 args (5 * k + 1)) (field16 args (5 * k + 3))) :
    takeWindowMap ref args s = s.refuse .badWindow 0x20 ref k := by
  have hfind : (parseWindows args).findIdx? Option.isNone = some k := by
    refine List.findIdx?_eq_some_iff_getElem.2 ⟨by simpa [parseWindows] using hk, ?_, fun j hj => ?_⟩
    · simp [parseWindows, parseWindow_eq_none_iff.2 hbad]
    · simp [parseWindows, parseWindow_of_inRange (hbefore j hj)]
  rw [takeWindowMap, if_neg (by simpa using hl), hfind]
  rfl

theorem takeWindowMap_of_inRange {s : State} {ref : Byte} {args : List Byte} (hl : args.length = 40)
    (h : ∀ k < 8, windowInRange (field8 args (5 * k)) (field16 args (5 * k + 1)) (field16 args (5 * k + 3))) :
    takeWindowMap ref args s = (s.loadMap ((List.range 8).map fun k =>
      if field8 args (5 * k) = 0 then ⟨.absent, 0, 0⟩
      else ⟨if field8 args (5 * k) = 1 then .play else .playRecord, field16 args (5 * k + 1),
        field16 args (5 * k + 3)⟩)).abortAll.stopPool := by
  have hparse : parseWindows args = (List.range 8).map fun k => some _ :=
    List.map_congr_left fun k hk => parseWindow_of_inRange (h k (List.mem_range.1 hk))
  have hfind : (parseWindows args).findIdx? Option.isNone = none := by
    rw [hparse, List.findIdx?_eq_none_iff]
    intro x hx
    obtain ⟨k, -, rfl⟩ := List.mem_map.1 hx
    rfl
  rw [takeWindowMap, if_neg (by simpa using hl), hfind, hparse, List.filterMap_map]
  dsimp only [Function.comp_def, id]
  rw [List.filterMap_eq_map']

/-! ### The channels -/

theorem State.capture_eq_none_of_set {s : State} {c : Nat} (h : s.capture c = none) : s.caps.set c none = s.caps := by
  by_cases hl : c < s.caps.length
  · have hget : s.caps[c] = none := by
      rw [← h, State.capture, List.getD_eq_getElem _ _ hl]
    rw [← hget, List.set_getElem_self]
  · exact List.set_eq_of_length_le (Nat.not_lt.1 hl)

theorem State.abortCapture_eq (s : State) (cause : CaptureCause) (c : Nat) : s.abortCapture cause c =
    { s with caps := s.caps.set c none
             sender := match s.capture c with
               | some x => s.sender.note (captureNotice c x cause x.written)
               | none => s.sender } := by
  unfold State.abortCapture
  cases h : s.capture c with
  | none => dsimp only; rw [State.capture_eq_none_of_set h]
  | some x => dsimp only; rw [State.queueOrdinary_eq]; rfl

/-- What the two aborts of a change of map leave: both channels IDLE and their notices queued, nothing else (R94, R138). -/
theorem State.abortAll_eq (s : State) : s.abortAll = { s.abortAll with
    rx := s.rx, tx := s.tx, slots := s.slots, bank := s.bank, seq := s.seq, su := s.su, pool := s.pool
    orders := s.orders, pending := s.pending } := by
  simp only [State.abortAll, List.foldl_cons, List.foldl_nil, State.abortCapture_eq]

theorem State.abortAll_caps (s : State) : s.abortAll.caps = (s.caps.set 0 none).set 1 none := by
  simp only [State.abortAll, List.foldl_cons, List.foldl_nil, State.abortCapture_eq]

theorem State.abortAll_sender (s : State) : s.abortAll.sender =
    ((List.range 2).foldl (fun u i => match s.capture i with
      | some x => u.queueOrdinary (.captureEnd i x.phrase .mapChanged x.written x.suspects)
      | none => u) s).sender := by
  have h1 : (s.abortCapture .mapChanged 0).capture 1 = s.capture 1 := by
    rw [State.abortCapture_eq]
    simp [State.capture]
  rw [State.abortAll, show List.range 2 = [0, 1] from rfl]
  simp only [List.foldl_cons, List.foldl_nil]
  rw [State.abortCapture_eq (s.abortCapture .mapChanged 0), h1, State.abortCapture_eq s]
  cases s.capture 0 <;> cases s.capture 1 <;> simp [captureNotice]

/-! ### The stopping of the pool -/

/-- The slots bound to a head of the pool. -/
def State.boundSlots (s : State) : List Nat := (List.range 24).flatMap s.subscribers

theorem State.mem_boundSlots {s : State} {k : Nat} :
    k ∈ s.boundSlots ↔ k < 128 ∧ ∃ h < 24, ∃ c, s.ctx k = some c ∧ c.head = some h := by
  simp only [State.boundSlots, List.mem_flatMap, List.mem_range, State.mem_subscribers]
  constructor
  · rintro ⟨h, hh, hk, c, hc⟩; exact ⟨hk, h, hh, c, hc⟩
  · rintro ⟨hk, h, hh, c, hc⟩; exact ⟨h, hh, hk, c, hc⟩

theorem State.nodup_boundSlots (s : State) : s.boundSlots.Nodup := by
  refine List.nodup_flatMap.2 ⟨fun h _ => s.nodup_subscribers h, ?_⟩
  refine List.nodup_range.imp fun hne k hk hk' => hne ?_
  obtain ⟨-, c, hc, hch⟩ := State.mem_subscribers.1 hk
  obtain ⟨-, d, hd, hdh⟩ := State.mem_subscribers.1 hk'
  rw [hc] at hd
  cases hd
  rw [hch] at hdh
  exact Option.some.inj hdh

/-- The waiters have been abandoned and have left the queue. -/
def State.unqueued (s : State) : State := (s.modifyCtxs (s.pool.queue.map Waiter.slot) Ctx.abandon).setQueue []

theorem State.ctx_stopPool (s : State) (k : Nat) : s.stopPool.ctx k =
    if k ∈ s.unqueued.boundSlots then (s.unqueued.ctx k).map Ctx.abandon else s.unqueued.ctx k := by
  rw [← State.ctx_modifyCtxs s.unqueued.nodup_boundSlots]
  rfl

theorem Ctx.abandon_head (c : Ctx) : c.abandon.head = none := by
  rw [Ctx.abandon_eq]
  exact c.complete_head

theorem Ctx.abandon_request (c : Ctx) : c.abandon.request = none := by
  unfold Ctx.abandon Ctx.pass; split <;> rfl

theorem Ctx.abandon_skipped (c : Ctx) : c.abandon.skipped = min 255 (c.skipped + 1) := by
  rw [Ctx.abandon_eq]

/-- A slot that no waiter holds and no head binds keeps its context at a change of map. -/
theorem State.ctx_stopPool_of_apart {s : State} {k : Nat} (hh : ∀ c, s.ctx k = some c → c.head = none)
    (hw : ∀ w ∈ s.pool.queue, w.slot ≠ k) : s.stopPool.ctx k = s.ctx k := by
  have hun : s.unqueued.ctx k = s.ctx k := by
    rw [State.unqueued, State.ctx_setQueue, State.ctx_modifyCtxs_of_notMem]
    intro hm
    obtain ⟨w, hwq, hwk⟩ := List.mem_map.1 hm
    exact hw w hwq hwk
  rw [State.ctx_stopPool, if_neg, hun]
  intro hm
  obtain ⟨-, h, -, c, hc, hch⟩ := State.mem_boundSlots.1 hm
  rw [hun] at hc
  rw [hh c hc] at hch
  cases hch

/-- A subscriber that does not wait is abandoned at a change of map. -/
theorem State.ctx_stopPool_of_bound {s : State} {k h : Nat} {c : Ctx} (hk : k < 128) (hc : s.ctx k = some c)
    (hch : c.head = some h) (hh : h < 24) (hw : ∀ w ∈ s.pool.queue, w.slot ≠ k) :
    s.stopPool.ctx k = some c.abandon := by
  have hun : s.unqueued.ctx k = some c := by
    rw [State.unqueued, State.ctx_setQueue, State.ctx_modifyCtxs_of_notMem, hc]
    intro hm
    obtain ⟨w, hwq, hwk⟩ := List.mem_map.1 hm
    exact hw w hwq hwk
  rw [State.ctx_stopPool, if_pos (State.mem_boundSlots.2 ⟨hk, h, hh, c, hun, hch⟩), hun]
  rfl

/-- A waiter is abandoned once at a change of map. -/
theorem State.ctx_stopPool_of_waiter {s : State} (hn : (s.pool.queue.map Waiter.slot).Nodup) {w : Waiter} {c : Ctx}
    (hw : w ∈ s.pool.queue) (hc : s.ctx w.slot = some c) : s.stopPool.ctx w.slot = some c.abandon := by
  have hun : s.unqueued.ctx w.slot = some c.abandon := by
    rw [State.unqueued, State.ctx_setQueue, State.ctx_modifyCtxs_of_mem hn (List.mem_map_of_mem hw), hc]
    rfl
  rw [State.ctx_stopPool, if_neg, hun]
  intro hm
  obtain ⟨-, h, -, d, hd, hdh⟩ := State.mem_boundSlots.1 hm
  rw [hun] at hd
  cases hd
  rw [Ctx.abandon_head] at hdh
  cases hdh

theorem State.stopPool_urgent (s : State) : s.stopPool.sender.urgent = queueNews s.sender.urgent s.pool.queue [] := by
  simp [State.stopPool]

theorem State.mail_stopPool (s : State) : s.stopPool.mail = s.mail := by
  simp [State.stopPool, State.mail]

/-- Settles O40: the stages of R94, unit by unit. -/
theorem windowMapStopsEverything : Obligations.WindowMapStopsEverything := by
  refine ⟨fun s ref args h => ⟨fun hl => ?_, fun k hk hl hbefore hbad => ?_⟩, fun s ref args h hcaps hl hall => ?_⟩
  · rw [exec_windowMap, State.takeMessage_of_ready h, takeWindowMap, if_pos (by simpa using hl)]
    rfl
  · rw [exec_windowMap, State.takeMessage_of_ready h, takeWindowMap_of_fault hl hk hbefore hbad]
  rw [exec_windowMap, State.takeMessage_of_ready h, takeWindowMap_of_inRange hl hall]
  generalize hws : (List.range 8).map _ = ws
  have hab := (s.loadMap ws).abortAll_eq
  have hcapsAb : (s.loadMap ws).abortAll.caps = (s.caps.set 0 none).set 1 none := (s.loadMap ws).abortAll_caps
  have hsender := (s.loadMap ws).abortAll_sender
  generalize (s.loadMap ws).abortAll = u at hab hcapsAb hsender
  have hback := u.backdrop_stopPool
  have hpool : u.pool = s.pool := by rw [hab]; rfl
  have hctx : ∀ k, u.ctx k = s.ctx k := State.ctx_congr (by rw [hab]; rfl)
  have hurgent : u.sender.urgent = s.sender.urgent := by
    rw [hsender, foldl_keeps (fun t : State => t.sender.urgent) _ (fun t i => by split <;> simp)]
    rfl
  have hqueue : u.stopPool.sender.urgent = queueNews s.sender.urgent s.pool.queue [] := by
    rw [State.stopPool_urgent, hurgent, hpool]
  have hw : ∀ {k}, (∀ w ∈ s.pool.queue, w.slot ≠ k) → ∀ w ∈ u.pool.queue, w.slot ≠ k := fun hw => by rwa [hpool]
  refine ⟨_, rfl, ?_, ?_, u.stopPool_queue, ?_, ?_, ?_, ?_, ?_, ?_, ?_, ?_, ?_, ?_, ?_, ?_, ?_, ?_, ?_⟩
  · rw [State.su_of_backdrop hback, hab]
    exact congrArg (fun f => StoreUnit.mk ws true (s.su.directory.map (Option.map f)) .closedCheck s.su.store)
      (funext fun e => by unfold Phrase.uncheck; split <;> rfl)
  · rw [State.caps_of_backdrop hback, hcapsAb]
    obtain ⟨a, b, hab2⟩ := List.length_eq_two.1 hcaps
    rw [hab2]
    rfl
  · intro x hx
    rw [State.stopPool_heads] at hx
    obtain ⟨y, -, rfl⟩ := List.mem_map.1 hx
    rfl
  · rw [State.rx_of_backdrop hback, hab]; rfl
  · rw [State.tx_of_backdrop hback, hab]; rfl
  · rw [State.slots_of_backdrop hback, hab]; rfl
  · rw [State.bank_of_backdrop hback, hab]; rfl
  · rw [State.templates_of_backdrop hback, hab]; rfl
  · rw [State.orders_of_backdrop hback, hab]; rfl
  · rw [State.pending_of_backdrop hback, hab]; rfl
  · intro k hk c j hc hcj hj hnw
    exact ⟨c.abandon, State.ctx_stopPool_of_bound hk ((hctx k).trans hc) hcj hj (hw hnw), rfl, c.abandon_head,
      c.abandon_request, c.abandon_skipped⟩
  · intro hn w hwq c hc
    refine ⟨c.abandon, State.ctx_stopPool_of_waiter (by rwa [hpool]) (by rwa [hpool]) ((hctx _).trans hc), rfl,
      c.abandon_head, c.abandon_request, rfl, c.abandon_skipped, c.kin_abandon.tag, ?_⟩
    rw [Ctx.abandon_eq]
    by_cases h0 : c.digitsLeft = 0
    · rw [Ctx.complete_of_noDigits h0, if_pos (by omega), if_pos h0]
      exact ⟨rfl, by rw [h0], rfl⟩
    · rw [Ctx.complete_of_digits (by omega), if_neg h0]
      exact ⟨rfl, rfl, rfl⟩
  · intro hq
    rw [hqueue, hq, queueNews_self]
  · intro hq hb
    rw [hqueue]
    exact (queueNews_left hq).2.1 rfl hb
  · intro hq hb
    rw [hqueue]
    exact (queueNews_left hq).2.2 rfl hb
  · intro k hk hnw
    rw [State.ctx_stopPool_of_apart (fun c hc => hk c ((hctx k).symm.trans hc)) (hw hnw), hctx]
  · rw [show u.stopPool.sender.ordinary = u.sender.ordinary from congrArg Prod.fst u.mail_stopPool, hsender,
      show List.range 2 = [0, 1] from rfl]
    simp only [List.foldl_cons, List.foldl_nil, show ∀ i, (s.loadMap ws).capture i = s.capture i from fun _ => rfl]
    cases s.capture 0 <;> cases s.capture 1 <;> simp only [State.queueOrdinary_sender] <;> rfl

end Sys2Proof.Machine

/-! PROOF. The lanes: the search in HUNT, the arrival of a lane frame, the completion of CHECK with the lane map and the control
lane (R1 to R8, R11), and the restart (R17). -/

namespace Sys2Proof.Machine

/-! ### One lane replaced -/

theorem State.modifyLane_eq {s : State} {p : Nat} {x : Lane} (hx : s.lane p = some x) (f : Lane → Lane) :
    s.modifyLane p f = s.setLanes (s.rx.lanes.set p (f x)) := by
  have hget : s.rx.lanes[p]? = some x := hx
  rw [State.modifyLane, List.modify_eq_set_getElem?, hget]
  rfl

/-! ### The search in HUNT -/

theorem Lane.huntByte_eq (x : Lane) (b : Byte) : x.huntByte b =
    if x.align ≠ .hunt then x
    else if x.search = 0 then (if b = 0x2D then { x with search := 1 } else x)
    else if x.search < 33 then { x with search := x.search + 1 }
    else { huntingLane x.slips with align := .check, expected := some .b } := by
  unfold Lane.huntByte
  obtain ⟨align, search, _⟩ := x
  cases align with
  | hunt =>
    simp only [ne_eq, not_true_eq_false, if_false]
    by_cases h0 : search = 0
    · simp [h0, framingA]
    · have h34 : search + 1 < 34 ↔ search < 33 := by omega
      simp [h0, h34, Lane.toCheck, Lane.initial, huntingLane]
  | check => simp
  | aligned => simp
  | spare => simp

/-- Settles O48: one lane's byte, on a state with nothing due. -/
theorem huntByteArrives : Obligations.HuntByteArrives := by
  refine fun s p b => ⟨fun hp => if_neg (Nat.not_lt.2 hp), fun x hq hp hx => ?_⟩
  have hexec : exec (.huntByteArrival p b) s = .next (s.settle.modifyLane p fun x => x.huntByte b) := if_pos hp
  rw [hexec, State.settle_of_quiet hq, State.modifyLane_eq hx, Lane.huntByte_eq]
  rfl

/-! ### The judgement of a framing byte -/

theorem identityOf_eq_some_iff {b : Byte} {l : Nat} : identityOf b = some l ↔ l < 4 ∧ b.toNat = 0xC0 + l := by
  unfold identityOf
  split
  · rw [Option.some.injEq]
    omega
  · simp only [reduceCtorEq, false_iff]
    omega

theorem identityOf_eq_none_iff {b : Byte} : identityOf b = none ↔ ¬ (0xC0 ≤ b.toNat ∧ b.toNat ≤ 0xC3) := by
  unfold identityOf
  split <;> simp_all

theorem judge_correct_iff {x : Lane} {b : Byte} :
    judge x.expected x.identity b = .correct ↔ framingCorrect x b = true := by
  unfold judge framingCorrect
  cases x.expected with
  | none => by_cases hb : b = 0x2D#8 <;> simp [framingA, hb]
  | some k =>
    cases k with
    | a => by_cases hb : b = 0x2D#8 <;> simp [framingA, hb]
    | b =>
      cases hi : x.identity with
      | none =>
        cases hb : identityOf b with
        | none => simpa using identityOf_eq_none_iff.1 hb
        | some l =>
          obtain ⟨h4, hbl⟩ := identityOf_eq_some_iff.1 hb
          simp only [true_iff, Bool.and_eq_true, decide_eq_true_eq]
          omega
      | some i =>
        cases hb : identityOf b with
        | none =>
          have hr := identityOf_eq_none_iff.1 hb
          simp only [reduceCtorEq, false_iff, Bool.and_eq_true, decide_eq_true_eq, beq_iff_eq]
          omega
        | some l =>
          obtain ⟨h4, hbl⟩ := identityOf_eq_some_iff.1 hb
          by_cases hl : l = i
          · subst hl; simp [h4, hbl]
          · simp only [if_neg hl, reduceCtorEq, false_iff, Bool.and_eq_true, decide_eq_true_eq, beq_iff_eq]
            omega

theorem judge_mismatch_iff {x : Lane} {b : Byte} :
    judge x.expected x.identity b = .mismatch ↔ framingMismatch x b = true := by
  unfold framingMismatch
  rw [Bool.and_eq_true, Bool.and_eq_true, Bool.and_eq_true, Bool.and_eq_true, Bool.not_eq_true', ← Bool.not_eq_true,
    ← judge_correct_iff, beq_iff_eq, decide_eq_true_eq, decide_eq_true_eq]
  unfold judge
  cases x.expected with
  | none => simp; split <;> simp
  | some k =>
    cases k with
    | a => simp; split <;> simp
    | b =>
      cases hb : identityOf b with
      | none =>
        have hr := identityOf_eq_none_iff.1 hb
        simp only [reduceCtorEq, false_iff]
        tauto
      | some l =>
        obtain ⟨h4, hbl⟩ := identityOf_eq_some_iff.1 hb
        have hr : 0xC0 ≤ b.toNat ∧ b.toNat ≤ 0xC3 := by omega
        cases x.identity with
        | none => simp
        | some i => by_cases hl : l = i <;> simp [hl, hr]

theorem flip_eq_flipped (x : Lane) : x.flip = flipped x := by
  unfold Lane.flip flipped
  rcases x.expected with _ | ⟨_ | _⟩ <;> rfl

/-! ### The lane map -/

theorem laneMap_congr {lanes lanes' : List Lane} {l : Nat}
    (h : ∀ p < 4, (lanes'[p]?).any (fun x => x.holds l) = (lanes[p]?).any fun x => x.holds l) :
    laneMap lanes' l = laneMap lanes l := by
  unfold laneMap
  rw [← List.head?_filter, ← List.head?_filter]
  exact congrArg List.head? (List.filter_congr fun p hp => h p (List.mem_range.1 hp))

theorem laneMap_eq_some {lanes : List Lane} {l p : Nat} (h : laneMap lanes l = some p) :
    p < 4 ∧ ∃ x, lanes[p]? = some x ∧ x.holds l = true := by
  refine ⟨List.mem_range.1 (List.mem_of_find?_eq_some h), ?_⟩
  simpa [Option.any_eq_true] using List.find?_some h

theorem laneMap_eq_none_iff {lanes : List Lane} {l : Nat} :
    laneMap lanes l = none ↔ ∀ p < 4, ∀ x, lanes[p]? = some x → x.holds l = false := by
  simp [laneMap, Option.any_eq_true]

/-- A lane replaced by one that holds what it held leaves the map. -/
theorem laneMap_set {lanes : List Lane} {p : Nat} {x y : Lane} (hx : lanes[p]? = some x) {l : Nat}
    (h : y.holds l = x.holds l) : laneMap (lanes.set p y) l = laneMap lanes l := by
  refine laneMap_congr fun q _ => ?_
  by_cases hq : p = q
  · subst hq
    rw [List.getElem?_set_self (List.getElem?_eq_some_iff.1 hx).1, hx]
    exact h
  · rw [List.getElem?_set_ne hq]

/-- A lane that takes a logical lane no other lane holds is its place in the map. -/
theorem laneMap_set_self {lanes : List Lane} {p l : Nat} {x y : Lane} (hp : p < 4) (hx : lanes[p]? = some x)
    (hnone : laneMap lanes l = none) (hy : y.holds l = true) : laneMap (lanes.set p y) l = some p := by
  have hl := (List.getElem?_eq_some_iff.1 hx).1
  refine List.find?_range_eq_some.2 ⟨by rw [List.getElem?_set_self hl]; exact hy, List.mem_range.2 hp, fun q hq => ?_⟩
  rw [List.getElem?_set_ne (by omega)]
  cases hz : lanes[q]? with
  | none => rfl
  | some z =>
    have hfree := laneMap_eq_none_iff.1 hnone q (by omega) z hz
    simp [hfree]

theorem Lane.holds_of_not_aligned {x : Lane} (h : x.align ≠ .aligned) (l : Nat) : x.holds l = false := by
  simp [Lane.holds, h]

theorem State.control_congr {s t : State} (h : ∀ l, t.map l = s.map l) : t.control = s.control := by
  unfold State.control
  rw [show t.mapped = s.mapped from funext fun l => by rw [State.mapped, h, State.mapped]]

theorem State.isControl_congr {s t : State} (h : ∀ l, t.map l = s.map l) (p : Nat) : t.isControl p = s.isControl p := by
  unfold State.isControl
  rw [State.control_congr h]
  cases s.control with
  | none => rfl
  | some l => exact congrArg (· == some p) (h l)

theorem State.control_eq_some_iff {s : State} {k : Nat} :
    s.control = some k ↔ k < 4 ∧ s.map k ≠ none ∧ ∀ j < k, s.map j = none := by
  unfold State.control
  rw [List.find?_range_eq_some, List.mem_range]
  simp only [State.mapped, Option.isSome_iff_ne_none, Bool.not_eq_true', Option.isSome_eq_false_iff, Option.isNone_iff_eq_none]
  tauto

theorem State.control_eq_none_iff {s : State} : s.control = none ↔ ∀ l < 4, s.map l = none := by
  simp [State.control, State.mapped]

/-! ### The arrival of a lane frame -/

theorem Lane.ends_judged_align (x : Lane) (f : LaneFrame) (j : Judgement) : (x.receive f j).align = x.align ∧
    (x.receive f j).identity = x.identity := by
  unfold Lane.receive
  split <;> exact ⟨rfl, rfl⟩

theorem Lane.align_foldl_huntByte (bytes : List Byte) {x : Lane} (h : x.align ≠ .aligned) :
    (bytes.foldl Lane.huntByte x).align ≠ .aligned := by
  refine foldl_inv (fun x : Lane => x.align ≠ .aligned) Lane.huntByte (fun x b hx => ?_) bytes x h
  rw [Lane.huntByte_eq]
  split_ifs
  · exact hx
  · exact hx
  · exact hx
  · exact hx
  · simp

/-- An arrival leaves the place of its lane in the map (R5 decides it, R6 and R7 end it). -/
theorem Lane.holds_arrive (x : Lane) (f : LaneFrame) (late : Bool) (l : Nat) :
    (x.arrive f late).holds l = x.holds l := by
  have hfree : ∀ y : Lane, x.align ≠ .aligned → y.align ≠ .aligned → y.holds l = x.holds l := fun y hx hy => by
    rw [Lane.holds_of_not_aligned hx, Lane.holds_of_not_aligned hy]
  unfold Lane.arrive
  cases ha : x.align with
  | hunt =>
    refine hfree _ (by simp [ha]) ?_
    dsimp only
    split
    · exact Lane.align_foldl_huntByte _ (by simp [ha])
    · simp [Lane.toCheck]
  | check =>
    refine hfree _ (by simp [ha]) ?_
    dsimp only
    split
    · simp [Lane.checkCorrect, Lane.flip, ha]
    · simp [Lane.toHunt, Lane.initial]
  | aligned =>
    obtain ⟨h1, h2⟩ := x.ends_judged_align f (judge x.expected x.identity f.framing)
    simp [Lane.holds, h1, h2]
  | spare => exact hfree _ (by simp [ha]) (by simp [Lane.judged, Lane.flip, ha])

/-- The counts of a judged frame (R6, R7), in the words of its framing byte. -/
theorem Lane.judged_eq (x : Lane) (b : Byte) : x.judged (judge x.expected x.identity b) = { flipped x with
    losses := if framingCorrect x b then 0 else x.losses + 1
    mismatches := if framingMismatch x b then x.mismatches + 1
      else if framingCorrect x b = true ∧ x.expected = some .b then 0 else x.mismatches } := by
  have hc := judge_correct_iff (x := x) (b := b)
  have hm := judge_mismatch_iff (x := x) (b := b)
  unfold Lane.judged Lane.mismatchesAfter
  rw [flip_eq_flipped]
  cases hj : judge x.expected x.identity b with
  | correct =>
    rw [hj] at hc hm
    have h1 : framingCorrect x b = true := hc.1 rfl
    have h2 : framingMismatch x b = false := by simpa using hm
    rw [h1, h2]
    rcases x.expected with _ | ⟨_ | _⟩ <;> simp
  | incorrect =>
    rw [hj] at hc hm
    have h1 : framingCorrect x b = false := by simpa using hc
    have h2 : framingMismatch x b = false := by simpa using hm
    rw [h1, h2]
    simp
  | mismatch =>
    rw [hj] at hc hm
    have h1 : framingCorrect x b = false := by simpa using hc
    have h2 : framingMismatch x b = true := hm.1 rfl
    rw [h1, h2]
    simp

/-- The clock's part of an arrival (R11): the frame event it makes due. -/
theorem State.arriveOn_eq {s : State} {p : Nat} {f : LaneFrame} {late : Bool} {x : Lane} (hx : s.lane p = some x)
    (hc : s.rx.clockDue = false) : s.arriveOn p f late = { s with rx := { s.rx with
      lanes := s.rx.lanes.set p (x.arrive f late)
      clockTaken := s.rx.clockTaken || (s.isControl p &&
        ((x.arrive f late).losses != 4 && ((x.arrive f late).mismatches != 4 && late)))
      clockDue := s.isControl p && ((x.arrive f late).losses != 4 && ((x.arrive f late).mismatches != 4 &&
        (s.rx.clockTaken || late))) } } := by
  have hl := (List.getElem?_eq_some_iff.1 (show s.rx.lanes[p]? = some x from hx)).1
  have hmap : ∀ l, (s.modifyLane p fun x => x.arrive f late).map l = s.map l := fun l => by
    rw [State.modifyLane_eq hx]
    exact laneMap_set hx (x.holds_arrive f late l)
  have hlane : (s.modifyLane p fun x => x.arrive f late).lane p = some (x.arrive f late) := by
    rw [State.modifyLane_eq hx]
    exact List.getElem?_set_self hl
  unfold State.arriveOn
  dsimp only
  rw [State.isControl_congr hmap, hlane, State.modifyLane_eq hx, Option.any_some, Lane.ends]
  generalize x.arrive f late = y
  unfold State.clockArrival
  cases s.isControl p <;> cases hk : (y.losses == 4) <;> cases hm : (y.mismatches == 4) <;>
    cases ht : s.rx.clockTaken <;> cases late <;> simp [bne, hk, hm, ht, hc, State.setLanes]

/-- Settles O49: the lane's record by its state, and the clock for the control lane. -/
theorem laneFrameArrives : Obligations.LaneFrameArrives := by
  intro s p f late
  refine ⟨fun h => if_neg (by omega), fun x hq hc hp hf hx => ⟨x.arrive f late, ?_, fun ha hs => ?_, fun ha hg => ?_,
    fun ha hg => ?_, fun ha => ?_, fun ha => ?_, fun ha he => ?_, fun ha h1 h2 => ?_⟩⟩
  · have hexec : exec (.laneFrameArrival p f late) s = .next (s.arriveOn p f late) := by
      refine (if_pos ⟨hp, hf⟩).trans ?_
      rw [State.settle_of_quiet hq]
      exact if_neg (by simp [State.frameBegun, hc])
    rw [hexec, State.arriveOn_eq hx hc]
  · unfold Lane.arrive
    rw [ha]
    exact if_neg (by omega)
  · unfold Lane.arrive
    rw [ha]
    exact if_neg (by rw [judge_correct_iff, hg]; simp)
  · unfold Lane.arrive
    rw [ha]
    refine (if_pos (judge_correct_iff.2 hg)).trans ?_
    unfold Lane.checkCorrect
    rw [flip_eq_flipped]
    have hid : (match x.identity, x.expected with
        | none, some .b => identityOf f.framing
        | i, _ => i) = if x.identity = none ∧ x.expected = some .b then some (f.framing.toNat - 0xC0)
          else x.identity := by
      cases hi : x.identity with
      | some i => simp
      | none =>
        rcases hex : x.expected with _ | ⟨_ | _⟩
        · simp
        · simp
        · simp only [framingCorrect, hi, hex, Bool.and_eq_true, decide_eq_true_eq] at hg
          simp [identityOf, hg]
    have hst : (x.checks + 1 = 8) = (x.checks = 7) := by simp
    simp only [hst]
    exact congrArg (fun i => { flipped x with
      checks := x.checks + 1, identity := i, store := if x.checks = 7 then some ⟨f, false⟩ else none, late := late }) hid
  · have hj : ∃ st sl, x.arrive f late =
        { x.judged (judge x.expected x.identity f.framing) with store := st, slips := sl } := by
      unfold Lane.arrive
      rcases ha with ha | ha <;> rw [ha] <;> dsimp only
      · unfold Lane.receive
        split
        · exact ⟨_, _, rfl⟩
        · exact ⟨_, _, rfl⟩
      · exact ⟨_, _, rfl⟩
    obtain ⟨st, sl, hj⟩ := hj
    rw [hj, Lane.judged_eq]
    exact ⟨rfl, rfl, rfl, rfl, rfl, rfl⟩
  · unfold Lane.arrive
    rw [ha]
    exact ⟨rfl, rfl⟩
  all_goals
    have harr : x.arrive f late = x.receive f (judge x.expected x.identity f.framing) := by
      unfold Lane.arrive
      rw [ha]
    have hcounts : (x.arrive f late).losses = (x.judged (judge x.expected x.identity f.framing)).losses ∧
        (x.arrive f late).mismatches = (x.judged (judge x.expected x.identity f.framing)).mismatches := by
      rw [harr, Lane.receive]
      split <;> exact ⟨rfl, rfl⟩
  · rw [hcounts.1, hcounts.2] at he
    rw [harr, Lane.receive, if_pos (by simpa [Lane.ends] using he)]
    exact ⟨rfl, rfl⟩
  · rw [hcounts.1] at h1
    rw [hcounts.2] at h2
    have hgood : (judge x.expected x.identity f.framing != .correct) = !framingCorrect x f.framing := by
      rw [Bool.eq_iff_iff, bne_iff_ne, ne_eq, judge_correct_iff]
      simp
    have hstore : x.store.isSome = true ↔ ¬ x.store = none := Option.isSome_iff_ne_none
    rw [harr, Lane.receive, if_neg (by simp [Lane.ends, h1, h2]), hgood]
    refine ⟨rfl, ?_⟩
    show (if x.store.isSome then min 255 (x.slips + 1) else x.slips) = _
    by_cases hs : x.store = none <;> simp [hs, hstore]

/-! ### The completion of CHECK -/

theorem State.completeCheck_eq {s : State} {p l : Nat} {x : Lane} (hx : s.lane p = some x) (hid : x.identity = some l) :
    s.completeCheck p = if l < s.rx.width ∧ s.mapped l = false then
      (let t := ((s.setLanes (s.rx.lanes.set p x.toAligned)).controlChanged s).queueLane l p .aligned
       if t.isControl p then { t with rx := { t.rx with clockTaken := x.late, clockDue := x.late } } else t)
      else (s.setLanes (s.rx.lanes.set p x.toSpare)).queueLane l p .spare := by
  rw [← State.modifyLane_eq hx, ← State.modifyLane_eq hx]
  simp only [State.completeCheck, hx, hid]

/-- The state in which lane `p` has become the holder of `l` (R5), clock and parser aside. -/
def State.aligned (s : State) (p : Nat) (x : Lane) : State := s.setLanes (s.rx.lanes.set p x.toAligned)

section
variable {s : State} {p l : Nat} {x : Lane} (hp : p < 4) (hx : s.lane p = some x) (hcheck : x.align = .check)
  (hid : x.identity = some l) (hfree : s.map l = none)
include hx hcheck hid

theorem State.map_aligned_ne {k : Nat} (hk : k ≠ l) : (s.aligned p x).map k = s.map k := by
  refine laneMap_set hx ?_
  rw [Lane.holds_of_not_aligned (x := x) (by simp [hcheck])]
  simp [Lane.holds, Lane.toAligned, hid, Ne.symm hk]

include hp hfree

omit hcheck in
theorem State.map_aligned_self : (s.aligned p x).map l = some p :=
  laneMap_set_self hp hx hfree (by simp [Lane.holds, Lane.toAligned, hid])

/-- A logical lane below every mapped one is the control lane (R11). -/
theorem State.control_aligned_of_lower (hl : l < 4) (h : ∀ k, s.control = some k → l < k) :
    (s.aligned p x).control = some l := by
  refine State.control_eq_some_iff.2 ⟨hl, by simp [State.map_aligned_self hp hx hid hfree], fun j hj => ?_⟩
  rw [State.map_aligned_ne hx hcheck hid (by omega)]
  cases hc : s.control with
  | none => exact State.control_eq_none_iff.1 hc j (by omega)
  | some k => exact (State.control_eq_some_iff.1 hc).2.2 j (by have := h k hc; omega)

omit hp hfree in
/-- A logical lane above the control lane does not become it (R11). -/
theorem State.control_aligned_of_higher {k : Nat} (hc : s.control = some k) (hk : k < l) :
    (s.aligned p x).control = some k := by
  obtain ⟨h4, hmap, hlow⟩ := State.control_eq_some_iff.1 hc
  refine State.control_eq_some_iff.2 ⟨h4, ?_, fun j hj => ?_⟩
  · rwa [State.map_aligned_ne hx hcheck hid (by omega)]
  · rw [State.map_aligned_ne hx hcheck hid (by omega)]
    exact hlow j hj

/-- The lane that completes CHECK below every mapped one takes over the clock, and the partial message goes (R11, R147). -/
theorem State.completeCheck_of_lower (hl : l < 4) (hw : l < s.rx.width) (h : ∀ k, s.control = some k → l < k) :
    s.completeCheck p = { s with
      rx := { s.rx with lanes := s.rx.lanes.set p x.toAligned, clockTaken := x.late, clockDue := x.late }
      orders := { s.orders with parser := .hunt }
      sender := { s.sender with urgent := placeLane s.sender.urgent l p .aligned } } := by
  have hcontrol := State.control_aligned_of_lower hp hx hcheck hid hfree hl h
  have hmap := State.map_aligned_self hp hx hid hfree
  have hholder : (s.aligned p x).controlHolder ≠ s.controlHolder := by
    unfold State.controlHolder
    rw [hcontrol]
    cases hc : s.control with
    | none => simp
    | some k =>
      have hk := h k hc
      simp only [Option.map_some, ne_eq, Option.some.injEq, Prod.mk.injEq, not_and]
      omega
  have hchanged : (s.aligned p x).controlChanged s = { s.aligned p x with
      rx := { (s.aligned p x).rx with clockTaken := false, clockDue := false }
      orders := { s.orders with parser := .hunt } } := if_neg hholder
  rw [State.completeCheck_eq hx hid, if_pos ⟨hw, by simp [State.mapped, hfree]⟩]
  have hctl : (((s.aligned p x).controlChanged s).queueLane l p .aligned).isControl p = true := by
    rw [hchanged]
    show (match (s.aligned p x).control with | some l => (s.aligned p x).map l == some p | none => false) = true
    rw [hcontrol]
    exact beq_iff_eq.2 hmap
  refine (if_pos hctl).trans ?_
  exact congrArg (fun u : State => { u.queueLane l p .aligned with
    rx := { u.rx with clockTaken := x.late, clockDue := x.late } }) hchanged

omit hp in
/-- The lane that completes CHECK above the control lane leaves clock and parser (R11). -/
theorem State.completeCheck_of_higher (hw : l < s.rx.width) {k : Nat} (hc : s.control = some k) (hk : k < l) :
    s.completeCheck p = { s with
      rx := { s.rx with lanes := s.rx.lanes.set p x.toAligned }
      sender := { s.sender with urgent := placeLane s.sender.urgent l p .aligned } } := by
  have hcontrol := State.control_aligned_of_higher hx hcheck hid hc hk
  have hmap := State.map_aligned_ne hx hcheck hid (k := k) (by omega)
  have hchanged : (s.aligned p x).controlChanged s = s.aligned p x :=
    if_pos (by rw [State.controlHolder, hcontrol, State.controlHolder, hc, Option.map_some, hmap]; rfl)
  have hother : s.map k ≠ some p := fun e => by
    obtain ⟨-, y, hy, hholds⟩ := laneMap_eq_some e
    rw [show s.rx.lanes[p]? = some x from hx] at hy
    cases hy
    rw [Lane.holds_of_not_aligned (by simp [hcheck])] at hholds
    cases hholds
  rw [State.completeCheck_eq hx hid, if_pos ⟨hw, by simp [State.mapped, hfree]⟩]
  have hctl : ¬ (((s.aligned p x).controlChanged s).queueLane l p .aligned).isControl p = true := by
    rw [hchanged]
    show ¬ (match (s.aligned p x).control with | some l => (s.aligned p x).map l == some p | none => false) = true
    rw [hcontrol]
    exact fun e => hother (by rw [← hmap]; exact beq_iff_eq.1 e)
  refine (if_neg hctl).trans ?_
  show ((s.aligned p x).controlChanged s).queueLane l p .aligned = _
  rw [hchanged]
  rfl

end

/-- Settles O50: SPARE, ALIGNED below the control lane, ALIGNED above it. -/
theorem checkCompletes : Obligations.CheckCompletes := by
  intro s p l x hp hl hx hcheck h8 hid
  have hexec : exec (.checkComplete p) s = .next (s.completeCheck p) := by
    refine congrArg Host.Outcome.next (if_pos ?_)
    simp [State.checkDue, hx, hcheck, h8]
  refine ⟨fun h => ?_, fun hw hfree => ?_⟩
  · rw [hexec, State.completeCheck_eq hx hid, if_neg fun hh => ?_]
    · rfl
    · rcases h with h | h
      · omega
      · exact h (by simpa [State.mapped] using hh.2)
  · have hself := State.map_aligned_self hp hx hid hfree
    have hne : ∀ k, k ≠ l → (s.aligned p x).map k = s.map k := fun k => State.map_aligned_ne hx hcheck hid
    by_cases hlow : ∀ k, s.control = some k → l < k
    · refine ⟨_, hexec.trans (congrArg _ (State.completeCheck_of_lower hp hx hcheck hid hfree hl hw hlow)), rfl, rfl, rfl,
        hself, hne, rfl, fun _ => ⟨State.control_aligned_of_lower hp hx hcheck hid hfree hl hlow, rfl, rfl, rfl⟩,
        fun k hc hk => ?_⟩
      have := hlow k hc
      omega
    · obtain ⟨k, hc, hge⟩ : ∃ k, s.control = some k ∧ ¬ l < k := by simpa using hlow
      have hkl : k ≠ l := fun e => (State.control_eq_some_iff.1 hc).2.1 (e ▸ hfree)
      have hk : k < l := by omega
      refine ⟨_, hexec.trans (congrArg _ (State.completeCheck_of_higher hx hcheck hid hfree hw hc hk)), rfl, rfl, rfl,
        hself, hne, rfl, fun h => absurd (h k hc) hge, fun j hj hjl => ?_⟩
      rw [hc] at hj
      cases hj
      exact ⟨State.control_aligned_of_higher hx hcheck hid hc hk, rfl, rfl, rfl⟩

/-! ### The restart -/

/-- Settles O56: the restart's effect, field by field. -/
theorem restartKeepsLoadedTables : Obligations.RestartKeepsLoadedTables := by
  refine fun s => ⟨fun h => ?_, fun h hq => ?_⟩
  · show Host.Outcome.next (if s.rx.restarting then s.settleEndings.restart else s) = .next s
    rw [h]
    rfl
  · refine ⟨s.restart, ?_, rfl, rfl, List.map_const' .., rfl, rfl, rfl, fun k => ?_, ?_, fun k => ?_, rfl, rfl, rfl, rfl,
      ?_, fun c => ?_, rfl, rfl, rfl⟩
    · show Host.Outcome.next (if s.rx.restarting then s.settleEndings.restart else s) = _
      rw [h, State.settleEndings_of_quiet hq]
      rfl
    · rw [State.ctx_eq]
      simp only [State.restart, List.getElem?_map]
      cases s.seq.contexts[k]? <;> rfl
    · have huncheck : Phrase.uncheck = fun e => { e with state := if e.state = .valid then .unchecked else e.state } := by
        funext e
        unfold Phrase.uncheck
        split <;> rfl
      rw [← huncheck]
      rfl
    · rw [State.headRun, State.head_eq]
      simp only [State.restart, List.getElem?_map]
      cases s.pool.heads[k]? <;> rfl
    · rfl
    · simp only [State.capture, State.restart, List.getD_eq_getElem?_getD, List.getElem?_map]
      cases s.caps[c]? <;> rfl

end Sys2Proof.Machine

/-! PROOF. The frame event: what its arrival marks, what its acts keep of the arrival, that no act leaves the store, and the
outbound frames of slots without a programme (R12, R16, R37 to R40). -/

namespace Sys2Proof.Machine

/-! ### The arrival -/

theorem Lane.holds_take (x : Lane) (l : Nat) : x.take.holds l = x.holds l := by
  unfold Lane.take
  split <;> rfl

@[simp] theorem State.map_arriveFrame (s : State) (l : Nat) : s.arriveFrame.map l = s.map l := by
  refine laneMap_congr fun p _ => ?_
  show ((s.rx.lanes.map Lane.take)[p]?).any _ = _
  rw [List.getElem?_map, Option.any_map]
  exact congrArg (fun f => (s.rx.lanes[p]?).any f) (funext fun x => x.holds_take l)

@[simp] theorem State.control_arriveFrame (s : State) : s.arriveFrame.control = s.control :=
  State.control_congr s.map_arriveFrame



@[simp] theorem State.head_arriveFrame (s : State) (h : Nat) :
    s.arriveFrame.head h = { run := (s.headRun h).map HeadRun.mark0, sample := none } := by
  rw [State.headRun, State.head_eq, State.head_eq]
  simp only [State.arriveFrame, List.getElem?_map]
  cases s.pool.heads[h]? <;> rfl

@[simp] theorem State.headRun_arriveFrame (s : State) (h : Nat) :
    s.arriveFrame.headRun h = (s.headRun h).map HeadRun.mark0 := by
  rw [State.headRun, State.head_arriveFrame]

theorem State.capture_eq (s : State) (c : Nat) : s.capture c = (s.caps[c]?).getD none := by
  simp [State.capture, List.getD_eq_getElem?_getD]

@[simp] theorem State.capture_arriveFrame (s : State) (c : Nat) :
    s.arriveFrame.capture c = (s.capture c).map fun x => { x with todo := true } := by
  rw [State.capture_eq, State.capture_eq]
  show ((s.caps.map (Option.map fun x => { x with todo := true }))[c]?).getD none = _
  rw [List.getElem?_map]
  cases s.caps[c]? <;> rfl

/-! ### What the acts keep of the arrival -/

/-- Two stages of the work of one frame event: what was taken and marked at its arrival is the same. -/
structure Work.SameArrival (w v : Work) : Prop where
  base : v.base = w.base
  tones : v.tones = w.tones
  taken : v.taken = w.taken

namespace Work.SameArrival

theorem refl (w : Work) : w.SameArrival w := ⟨rfl, rfl, rfl⟩

theorem trans {u v w : Work} (h : u.SameArrival v) (k : v.SameArrival w) : u.SameArrival w :=
  ⟨k.base.trans h.base, k.tones.trans h.tones, k.taken.trans h.taken⟩

theorem foldl {α : Type} {f : Work → α → Work} (hf : ∀ (w : Work) (a : α), w.SameArrival (f w a)) (l : List α) (w : Work) :
    w.SameArrival (l.foldl f w) :=
  foldl_inv (fun v => w.SameArrival v) f (fun v a h => h.trans (hf v a)) l w (refl w)

/-- The state in hand and the notes on waiters and restart are none of the arrival's. -/
theorem update {w v : Work} (h : w.SameArrival v) (s : State) (queued : List Waiter) (lapsed : List Nat)
    (restarted : Bool) : w.SameArrival { v with s, queued, lapsed, restarted } := ⟨h.base, h.tones, h.taken⟩

end Work.SameArrival

theorem Work.arrival_qualify (w : Work) : w.SameArrival w.qualify := by
  unfold Work.qualify; split <;> exact ⟨rfl, rfl, rfl⟩

theorem Work.arrival_workSlot (w : Work) (k : Nat) : w.SameArrival (w.workSlot k) := by
  unfold Work.workSlot
  split
  · exact .refl w
  · split
    · exact .refl w
    · dsimp only
      split
      · exact ⟨rfl, rfl, rfl⟩
      · split <;> exact ⟨rfl, rfl, rfl⟩

theorem Work.arrival_headWork (w : Work) (h : Nat) : w.SameArrival (w.headWork h) := by
  unfold Work.headWork
  split
  · exact .refl w
  · split
    · exact ⟨rfl, rfl, rfl⟩
    · split <;> exact ⟨rfl, rfl, rfl⟩

theorem Work.arrival_capture (w : Work) (c : Nat) : w.SameArrival (w.capture c) := by
  unfold Work.capture
  split
  · exact .refl w
  · split
    · exact .refl w
    · split
      · exact .refl w
      · split <;> exact ⟨rfl, rfl, rfl⟩

theorem Work.arrival_parse (w : Work) : w.SameArrival w.parse := by
  unfold Work.parse; split <;> exact ⟨rfl, rfl, rfl⟩

theorem Work.arrival_offer (w : Work) : w.SameArrival w.offer := by
  unfold Work.offer
  split
  · exact .refl w
  · split <;> exact ⟨rfl, rfl, rfl⟩

theorem Work.arrival_waitExpiry (w : Work) (k : Nat) : w.SameArrival (w.waitExpiry k) := by
  have h := (Work.SameArrival.foldl Work.arrival_headWork (List.range 24) w).trans (Work.arrival_parse _)
  unfold Work.waitExpiry
  dsimp only
  split <;> exact h.update _ _ _ _

theorem Work.arrival_act (w : Work) (a : Act) : w.SameArrival (w.act a) := by
  cases a with
  | qualify => exact w.arrival_qualify
  | contexts below => exact .foldl Work.arrival_workSlot _ w
  | headWork h => exact w.arrival_headWork h
  | capture c => exact w.arrival_capture c
  | laneLoss p f o =>
    simp only [Work.act, Work.laneLoss]
    split <;> exact ⟨rfl, rfl, rfl⟩
  | parse => exact w.arrival_parse
  | takeOrder o => exact w.arrival_parse.update _ _ _ _
  | offerByte => exact w.arrival_offer
  | restart =>
    simp only [Work.act, Work.restart]
    split
    · exact w.arrival_qualify.update _ _ _ _
    · exact w.arrival_qualify
  | waitExpiry k => exact w.arrival_waitExpiry k
  | countWaits | timedStepEnd | gatherExpiry | lingerExpiry | phraseComplete | loopComplete | voiceExpiry | captureFull
  | captureSilence => exact ⟨rfl, rfl, rfl⟩

theorem Work.arrival_acts (as : List Act) (w : Work) : w.SameArrival (as.foldl Work.act w) :=
  .foldl Work.arrival_act as w

/-! ### No act leaves the store -/

/-- Every byte that a head has yet to read, or a channel to write, at the frame event in hand lies inside the store (R91). -/
def State.workInStore (s : State) : Prop :=
  (∀ h r, s.headRun h = some r → r.reads = true → r.start + r.offset < storeSize) ∧
  (∀ c x, s.capture c = some x → x.todo = true → x.start + x.written < storeSize)

theorem State.workInStore_congr {s t : State} (hh : t.pool.heads = s.pool.heads) (hc : t.caps = s.caps)
    (hs : s.workInStore) : t.workInStore := by
  refine ⟨fun h r hr => hs.1 h r ?_, fun c x hx => hs.2 c x ?_⟩
  · rwa [State.headRun, State.head_congr hh] at hr
  · rwa [State.capture, hc] at hx

/-- A change of one head that adds no read keeps every read inside the store. -/
theorem State.workInStore_of_heads {s t : State} (hc : t.caps = s.caps)
    (hh : ∀ g q, t.headRun g = some q → q.reads = true →
      ∃ p, s.headRun g = some p ∧ p.reads = true ∧ q.start + q.offset ≤ p.start + p.offset)
    (hs : s.workInStore) : t.workInStore := by
  refine ⟨fun g q hq hread => ?_, fun c x hx => hs.2 c x (by rwa [State.capture, hc] at hx)⟩
  obtain ⟨p, hp, hpr, hle⟩ := hh g q hq hread
  exact lt_of_le_of_lt hle (hs.1 g p hp hpr)

theorem keptByPool_workInStore : KeptByPool State.workInStore where
  setHeadRun s h r _ hmore hP := by
    refine State.workInStore_of_heads (s := s) rfl (fun g q hq hread => ?_) hP
    by_cases hg : g = h ∧ h < s.pool.heads.length
    · rw [State.headRun, State.head_setHeadRun, if_pos hg] at hq
      rw [hg.1]
      exact hmore q hq hread
    · rw [State.headRun, State.head_setHeadRun, if_neg hg] at hq
      exact ⟨q, hq, hread, le_rfl⟩
  setQueue s q _ hP := State.workInStore_congr (by rw [State.setQueue_pool]) (by rw [State.setQueue_caps]) hP
  queueOrdinary s n hP := State.workInStore_congr (by rw [State.queueOrdinary_pool]) (by rw [State.queueOrdinary_caps]) hP

theorem keptInFrame_workInStore : KeptInFrame State.workInStore where
  toKeptByPool := keptByPool_workInStore
  advanceHead s h r p hr hP := by
    refine State.workInStore_of_heads (s := s) rfl (fun g q hq hread => ?_) hP
    rw [State.headRun, State.head_modifyHeads] at hq
    split at hq
    · cases hq; simp [HeadRun.reads, HeadRun.advance] at hread
    · exact ⟨q, hq, hread, le_rfl⟩
  stopHeads s hP := by
    refine State.workInStore_of_heads (s := s) rfl (fun g q hq hread => ?_) hP
    rw [State.headRun, State.head_eq, State.setHeads_heads, List.getElem?_map] at hq
    cases hg : s.pool.heads[g]? <;> rw [hg] at hq <;> cases hq
  setCapture s c y hy hP := by
    refine ⟨hP.1, fun d x hx htodo => ?_⟩
    by_cases hd : c = d ∧ c < s.caps.length
    · obtain ⟨rfl, hl⟩ := hd
      rw [State.capture_eq] at hx
      simp only [State.setCapture, List.getElem?_set_self hl, Option.getD_some] at hx
      rw [hy x hx] at htodo
      cases htodo
    · refine hP.2 d x ?_ htodo
      rw [State.capture_eq] at hx ⊢
      simp only [State.setCapture, List.getElem?_set] at hx
      split at hx
      · next he => rw [if_neg fun hl => hd ⟨he, hl⟩] at hx; cases hx
      · exact hx
  beginReport s hP := by
    unfold State.beginReport
    split
    · exact hP
    · split <;> exact hP
  restart s _ := by
    refine ⟨fun h r hr => ?_, fun c x hx => ?_⟩
    · rw [State.headRun, State.head_eq] at hr
      simp only [State.restart, List.getElem?_map] at hr
      cases hg : s.pool.heads[h]? <;> rw [hg] at hr <;> cases hr
    · rw [State.capture_eq] at hx
      simp only [State.restart, List.getElem?_map] at hx
      cases hg : s.caps[c]? <;> rw [hg] at hx <;> cases hx

theorem State.workInStore_arriveFrame {s : State} (hs : s.inStore) : s.arriveFrame.workInStore := by
  refine ⟨fun h r hr _ => ?_, fun c x hx _ => ?_⟩
  · rw [State.headRun_arriveFrame, Option.map_eq_some_iff] at hr
    obtain ⟨q, hq, rfl⟩ := hr
    exact hs.1 h q hq
  · rw [State.capture_arriveFrame, Option.map_eq_some_iff] at hx
    obtain ⟨y, hy, rfl⟩ := hx
    exact hs.2 c y hy

/-- Work whose reads and writes lie inside the store, and which has left it nowhere. -/
def Work.Sound (w : Work) : Prop := w.s.workInStore ∧ w.bad = none

theorem Work.Sound.bad_headWork {w : Work} (h : w.Sound) (g : Nat) : (w.headWork g).bad = none := by
  unfold Work.headWork
  split
  · exact h.2
  · next r hr =>
    split
    · exact h.2
    · next hread => rw [if_pos (h.1.1 g r hr (by simpa using hread))]; exact h.2

theorem Work.Sound.headWork {w : Work} (h : w.Sound) (g : Nat) : (w.headWork g).Sound :=
  ⟨keptInFrame_workInStore.headWork w g h.1, h.bad_headWork g⟩

theorem Work.Sound.bad_capture {w : Work} (h : w.Sound) (c : Nat) : (w.capture c).bad = none := by
  unfold Work.capture
  split
  · exact h.2
  · next x hx =>
    split
    · exact h.2
    · next htodo =>
      split
      · exact h.2
      · have hplace := h.1.2 c x hx (by simpa using htodo)
        rw [if_neg (by simp only [Bool.and_eq_true, decide_eq_true_eq, not_and]; omega)]
        exact h.2

theorem Work.bad_workSlot (w : Work) (k : Nat) : (w.workSlot k).bad = w.bad := by
  unfold Work.workSlot
  split
  · rfl
  · split
    · rfl
    · dsimp only
      split
      · rfl
      · split <;> rfl

theorem Work.bad_qualify (w : Work) : w.qualify.bad = w.bad := by unfold Work.qualify; split <;> rfl

theorem Work.bad_parse (w : Work) : w.parse.bad = w.bad := by unfold Work.parse; split <;> rfl

theorem Work.bad_offer (w : Work) : w.offer.bad = w.bad := by
  unfold Work.offer
  split
  · rfl
  · split <;> rfl

theorem Work.Sound.headWorks {w : Work} (h : w.Sound) (l : List Nat) : (l.foldl Work.headWork w).Sound :=
  foldl_inv Work.Sound Work.headWork (fun _ g hw => hw.headWork g) l w h

theorem Work.Sound.bad_act {w : Work} (h : w.Sound) (a : Act) : (w.act a).bad = none := by
  cases a with
  | qualify => exact w.bad_qualify.trans h.2
  | contexts below => exact (foldl_keeps Work.bad Work.workSlot Work.bad_workSlot _ w).trans h.2
  | headWork g => exact h.bad_headWork g
  | capture c => exact h.bad_capture c
  | laneLoss p f o =>
    simp only [Work.act, Work.laneLoss]
    split <;> exact h.2
  | parse => exact w.bad_parse.trans h.2
  | takeOrder o =>
    dsimp only [Work.act]
    exact w.bad_parse.trans h.2
  | offerByte => exact w.bad_offer.trans h.2
  | restart =>
    have hq := w.bad_qualify.trans h.2
    simp only [Work.act, Work.restart]
    split <;> exact hq
  | waitExpiry k =>
    have hq := (Work.bad_parse _).trans (h.headWorks (List.range 24)).2
    simp only [Work.act, Work.waitExpiry]
    split <;> dsimp only <;> exact hq
  | countWaits | timedStepEnd | gatherExpiry | lingerExpiry | phraseComplete | loopComplete | voiceExpiry | captureFull
  | captureSilence => exact h.2

theorem Work.Sound.act {w : Work} (h : w.Sound) (a : Act) : (w.act a).Sound :=
  ⟨keptInFrame_workInStore.act w a h.1, h.bad_act a⟩

theorem Work.Sound.acts {w : Work} (h : w.Sound) (as : List Act) : (as.foldl Work.act w).Sound :=
  foldl_inv Work.Sound Work.act (fun _ a hw => hw.act a) as w h

theorem Work.sound_start {s : State} (hs : s.inStore) : (Work.start s).Sound := ⟨State.workInStore_arriveFrame hs, rfl⟩

/-- A frame event that is due runs its acts to the end, whatever their order. -/
theorem exec_frameEvent_of_due {s : State} (hq : s.quiet = true) (hdue : s.frameDue = true) (hs : s.inStore)
    (schedule : List Act) :
    exec (.frameEvent schedule) s = .next ((schedule ++ standingActs).foldl Work.act (Work.start s)).finish := by
  show s.dueFrame schedule = _
  unfold State.dueFrame
  rw [State.settle_of_quiet hq, if_pos hdue]
  unfold runFrame
  dsimp only
  rw [((Work.sound_start hs).acts _).2]

/-! ### The outbound frames -/

theorem Lane.aligned_of_holds {x : Lane} {l : Nat} (h : x.holds l = true) : x.align = .aligned ∧ x.identity = some l := by
  simpa [Lane.holds] using h

/-- A physical lane is mapped to one logical lane. -/
theorem State.map_inj {s : State} {l k p : Nat} (hl : s.map l = some p) (hk : s.map k = some p) : l = k := by
  obtain ⟨-, x, hx, hxl⟩ := laneMap_eq_some hl
  obtain ⟨-, y, hy, hyk⟩ := laneMap_eq_some hk
  rw [hx] at hy
  cases hy
  exact Option.some.inj ((Lane.aligned_of_holds hxl).2.symm.trans (Lane.aligned_of_holds hyk).2)

theorem State.carries_of_map {s : State} {l p : Nat} (hl : l < 4) (h : s.map l = some p) : s.carries p = some l := by
  refine List.find?_range_eq_some.2 ⟨by simp [h], List.mem_range.2 hl, fun k hk => ?_⟩
  by_contra hc
  have := State.map_inj h (k := k) (by simpa using hc)
  omega

theorem State.carries_eq_none {s : State} {p : Nat} (h : ∀ l < 4, s.map l ≠ some p) : s.carries p = none := by
  simpa [State.carries] using h

/-- The frame an ALIGNED lane gives is taken from it. -/
theorem Lane.contribution_of_contributes {x : Lane} {held : Held} (ha : x.align = .aligned) (h : contributes x held) :
    x.contribution = some held := by
  unfold Lane.contribution
  rw [ha]
  rcases h with h | ⟨h, hl⟩
  · rw [h]
  · rw [h]; exact hl

section
variable {s : State} {w : Work} (hw : (Work.start s).SameArrival w)
include hw

theorem Work.frameOf_arrival {l p : Nat} {x : Lane} {held : Held} (hmap : s.map l = some p) (hx : s.lane p = some x)
    (hheld : contributes x held) : w.frameOf w.base l = some held := by
  obtain ⟨-, y, hy, hyl⟩ := laneMap_eq_some hmap
  rw [show s.rx.lanes[p]? = some x from hx] at hy
  cases hy
  unfold Work.frameOf
  rw [hw.base, hw.taken]
  show (match s.arriveFrame.map l with
    | some p => (s.rx.lanes.map Lane.contribution).getD p none
    | none => none) = some held
  rw [State.map_arriveFrame, hmap]
  simp only [List.getD_eq_getElem?_getD, List.getElem?_map]
  rw [show s.rx.lanes[p]? = some x from hx]
  exact Lane.contribution_of_contributes (Lane.aligned_of_holds hyl).1 hheld

theorem Work.inbound_arrival {l p n : Nat} {x : Lane} {held : Held} (hmap : s.map l = some p) (hx : s.lane p = some x)
    (hheld : contributes x held) (hn : n < 32) :
    w.inbound (32 * l + n) = some (held.frame.slots.getD n 0x00, held.suspect) := by
  unfold Work.inbound
  rw [show laneOfSlot (32 * l + n) = l by unfold laneOfSlot; omega, Work.frameOf_arrival hw hmap hx hheld,
    show (32 * l + n) % 32 = n by omega]
  rfl

theorem Work.outbound_of_unmapped {p : Nat} (h : ∀ l < 4, s.map l ≠ some p) : w.outbound p =
    ⟨outboundFraming s.tx.next none, idleFill, List.replicate 32 silenceCode⟩ := by
  unfold Work.outbound
  rw [hw.base, State.carries_eq_none (s := (Work.start s).base) fun l hl => by
    show s.arriveFrame.map l ≠ some p
    rw [State.map_arriveFrame]
    exact h l hl]
  rfl

theorem Work.outbound_of_mapped {l p : Nat} (hl : l < 4) (h : s.map l = some p) : w.outbound p =
    { framing := outboundFraming s.tx.next (some l)
      service := w.offered.getD idleFill
      slots := (List.range 32).map fun n =>
        w.mix (32 * l + n) (((w.inbound (32 * l + n)).map Prod.fst).getD silenceCode) } := by
  unfold Work.outbound
  rw [show w.base.carries p = some l by
    rw [hw.base]
    exact State.carries_of_map hl (by
      show s.arriveFrame.map l = some p
      rw [State.map_arriveFrame, h])]
  dsimp only
  rw [hw.base]
  rfl

theorem Work.getElem?_slots_outbound {l p n : Nat} (hl : l < 4) (h : s.map l = some p) (hn : n < 32) :
    (w.outbound p).slots[n]? =
      some (w.mix (32 * l + n) (((w.inbound (32 * l + n)).map Prod.fst).getD silenceCode)) := by
  rw [Work.outbound_of_mapped hw hl h]
  simp [hn]

theorem Work.mix_of_unbound {k : Nat} (hk : s.ctx k = none) {e : SlotEntry} (he : s.slots[k]? = some e) (b : Byte) :
    w.mix k b = match e.base with | .through => b | .mute => silenceCode := by
  unfold Work.mix
  rw [hw.base]
  have hslot : (Work.start s).base.slots.getD k ⟨.through, 0⟩ = e := by
    rw [List.getD_eq_getElem?_getD]
    exact congrArg (Option.getD · _) he
  have hctx : (Work.start s).base.ctx k = none := (s.ctx_arriveFrame k).trans (by rw [hk]; rfl)
  simp only [hslot, hctx] <;> rfl

end

theorem Work.getElem?_frames_finish (w : Work) {p : Nat} (hp : p < 4) : w.finish.tx.frames[p]? = some (w.outbound p) := by
  show ((List.range 4).map w.outbound)[p]? = _
  simp [hp]

/-- Settles O53: every act keeps what the arrival took and stays inside the store. -/
theorem frameEventSendsFrames : Obligations.FrameEventSendsFrames := by
  intro s schedule hq
  refine ⟨fun hdue => ?_, fun hdue hs => ?_⟩
  · show s.dueFrame schedule = _
    unfold State.dueFrame
    rw [State.settle_of_quiet hq, if_neg (by simp [hdue])]
  · have hexec := exec_frameEvent_of_due hq hdue hs schedule
    have hw := Work.arrival_acts (schedule ++ standingActs) (Work.start s)
    generalize (schedule ++ standingActs).foldl Work.act (Work.start s) = w at hexec hw
    refine ⟨w.finish, hexec, ?_, by simp [Work.finish], execLeavesQueue _ s _ hexec, fun p hp h => ?_,
      fun p hp l hl hmap => ⟨w.outbound p, w.getElem?_frames_finish hp, ?_, ?_, fun n hn hctx e he => ⟨fun hb => ?_,
        fun hb x held hx hheld => ?_⟩⟩⟩
    · show w.base.tx.next.other = _
      rw [hw.base]
      show s.tx.next.other = _
      cases s.tx.next <;> rfl
    · rw [w.getElem?_frames_finish hp, Work.outbound_of_unmapped hw h]
      cases s.tx.next <;> rfl
    · rw [Work.outbound_of_mapped hw hl hmap]
      cases s.tx.next <;> rfl
    · rw [Work.outbound_of_mapped hw hl hmap]
      simp
    · rw [Work.getElem?_slots_outbound hw hl hmap hn, Work.mix_of_unbound hw hctx he, hb]
      rfl
    · rw [Work.getElem?_slots_outbound hw hl hmap hn, Work.mix_of_unbound hw hctx he, hb,
        Work.inbound_arrival hw hmap hx hheld hn]
      rfl

end Sys2Proof.Machine

/-! PROOF. A frame event in its standing order: the stages of its work, and that the Lane Receiver has no part in the turns of
the contexts. -/

namespace Sys2Proof.Machine

/-! ### The Lane Receiver has no part in the Sequencer's work -/

/-- The state with another Lane Receiver. -/
def State.withRx (s : State) (r : LaneReceiver) : State := { s with rx := r }

section
variable (r : LaneReceiver) (s : State)

theorem State.withRx_modifyCtxs (l : List Nat) (f : Ctx → Ctx) :
    (s.withRx r).modifyCtxs l f = (s.modifyCtxs l f).withRx r :=
  List.foldl_hom (fun t : State => t.withRx r) fun _ _ => rfl

theorem State.withRx_setQueue (q : List Waiter) : (s.withRx r).setQueue q = (s.setQueue q).withRx r := by
  rw [State.setQueue_eq, State.setQueue_eq]; rfl

theorem State.withRx_queueAll (ns : List Notice) : (s.withRx r).queueAll ns = (s.queueAll ns).withRx r := by
  rw [State.queueAll_eq, State.queueAll_eq]; rfl

theorem State.withRx_startHead (h : Nat) (kind : ReqKind) (p : Nat) :
    (s.withRx r).startHead h kind p = (s.startHead h kind p).withRx r := by
  unfold State.startHead
  rw [show (s.withRx r).entry p = s.entry p from rfl]
  cases s.entry p <;> rfl

theorem State.withRx_revive (h : Nat) : (s.withRx r).revive h = (s.revive h).withRx r := by
  unfold State.revive
  rw [show (s.withRx r).headRun h = s.headRun h from rfl]
  rcases s.headRun h with _ | ⟨_ | _ | _, _⟩ <;> rfl

theorem State.withRx_subscribe (own : Bool) (k h : Nat) :
    (s.withRx r).subscribe own k h = (s.subscribe own k h).withRx r := by
  unfold State.subscribe
  rw [show (s.withRx r).headRun h = s.headRun h from rfl]
  cases s.headRun h <;> rfl

theorem State.withRx_enqueue (k p : Nat) (kind : ReqKind) :
    (s.withRx r).enqueue k p kind = (s.enqueue k p kind).withRx r :=
  State.withRx_setQueue r (s.modifyCtx k fun c => { c with
    state := .waiting, head := none, position := 0, fellBack := true }) _

theorem State.withRx_request (own : Bool) (k p : Nat) (kind : ReqKind) :
    (s.withRx r).request own k p kind = (s.request own k p kind).map fun t => t.withRx r := by
  unfold State.request
  rw [show (s.withRx r).playable p = s.playable p from rfl]
  cases s.playable p with
  | false => rfl
  | true =>
    have hjoin : ((s.withRx r).modifyCtx k fun c => { c with request := some (p, kind.mode) }).joinable p kind =
      (s.modifyCtx k fun c => { c with request := some (p, kind.mode) }).joinable p kind := rfl
    have hspare : ((s.withRx r).modifyCtx k fun c => { c with request := some (p, kind.mode) }).spareHead =
      (s.modifyCtx k fun c => { c with request := some (p, kind.mode) }).spareHead := rfl
    have hmod : ((s.withRx r).modifyCtx k fun c => { c with request := some (p, kind.mode) }) =
      (s.modifyCtx k fun c => { c with request := some (p, kind.mode) }).withRx r := rfl
    simp only [if_true, hjoin, hspare]
    generalize s.modifyCtx k (fun c => { c with request := some (p, kind.mode) }) = t at hmod
    rw [hmod]
    cases t.joinable p kind with
    | some h => simp only [State.withRx_revive, State.withRx_subscribe, Option.map_some]
    | none =>
      cases t.spareHead with
      | some h => simp only [State.withRx_startHead, State.withRx_subscribe, Option.map_some]
      | none => simp only [State.withRx_enqueue, Option.map_some]

theorem State.withRx_grantTo (h k : Nat) : (s.withRx r).grantTo h k = (s.grantTo h k).withRx r := by
  unfold State.grantTo
  rw [show (s.withRx r).headRun h = s.headRun h from rfl]
  cases s.headRun h <;> rfl

theorem State.withRx_offer (h : Nat) : (s.withRx r).offer h = (s.offer h).withRx r := by
  unfold State.offer
  rw [show (s.withRx r).pool = s.pool from rfl, show (s.withRx r).playable = s.playable from rfl]
  simp only [State.withRx_modifyCtxs]
  cases s.pool.queue.dropWhile fun w => !s.playable w.phrase with
  | nil => exact State.withRx_setQueue r _ _
  | cons w ws =>
    simp only [State.withRx_startHead]
    rw [List.foldl_hom (fun t : State => t.withRx r) fun t k => (State.withRx_grantTo r t h k), State.withRx_setQueue]

theorem State.withRx_restHead (h : Nat) : (s.withRx r).restHead h = (s.restHead h).withRx r := by
  unfold State.restHead
  rw [show (s.withRx r).headRun h = s.headRun h from rfl, show (s.withRx r).emptied h = s.emptied h from rfl]
  cases s.headRun h with
  | none => rfl
  | some q => cases s.emptied h <;> rfl

theorem State.withRx_settleHeads (l : List Nat) : (s.withRx r).settleHeads l = (s.settleHeads l).withRx r := by
  unfold State.settleHeads
  rw [show (s.withRx r).emptied = s.emptied from rfl]
  dsimp only
  rw [List.foldl_hom (g₁ := State.restHead) (fun t : State => t.withRx r) fun t h => State.withRx_restHead r t h]
  refine List.foldl_hom (fun t : State => t.withRx r) fun t h => ?_
  rw [show (t.withRx r).pool = t.pool from rfl]
  cases t.pool.queue.isEmpty with
  | true => rfl
  | false => exact State.withRx_offer r t h

theorem State.withRx_endProgrammes (l : List Nat) (cause : EndCause) :
    (s.withRx r).endProgrammes l cause = (s.endProgrammes l cause).withRx r := by
  unfold State.endProgrammes State.leavePool
  have hfree : l.foldl (fun t k => t.setCtx k none) (s.withRx r) =
      (l.foldl (fun t k => t.setCtx k none) s).withRx r :=
    List.foldl_hom (fun t : State => t.withRx r) fun _ _ => rfl
  simp only [hfree, State.withRx_setQueue, State.withRx_settleHeads, State.withRx_queueAll]
  rfl

/-- How a step's beginning goes on, with another Lane Receiver. -/
def Begun.withRx : Begun → Begun
  | .stop s => .stop (s.withRx r)
  | .pass s => .pass (s.withRx r)
  | .over => .over

theorem State.withRx_answer (own : Bool) (k p : Nat) (kind : ReqKind) :
    (s.withRx r).answer own k p kind = (s.answer own k p kind).withRx r := by
  unfold State.answer
  rw [State.withRx_request]
  cases s.request own k p kind <;> rfl

theorem State.withRx_beginStep (own : Bool) (k : Nat) (c : Ctx) (t : Template) :
    (s.withRx r).beginStep own k c t = (s.beginStep own k c t).withRx r := by
  unfold State.beginStep
  cases t.steps[c.step]? with
  | none => rfl
  | some st =>
    cases st with
    | tone | silence => rfl
    | phrase p => exact State.withRx_answer r s own k p .gather
    | loop p cycles => exact State.withRx_answer r (s.setCtx k (some { c with cycles })) own k p .loop
    | digits base count =>
      dsimp only
      split
      · exact State.withRx_answer r s own k _ .digit
      · split <;> rfl
    | rep target times =>
      dsimp only
      split <;> rfl

theorem State.withRx_goOn (own : Bool) (k : Nat) : ∀ (n : Nat) (s : State),
    State.goOn own k n (s.withRx r) = (State.goOn own k n s).withRx r
  | 0, _ => rfl
  | n + 1, s => by
    rw [State.goOn, State.goOn, show (s.withRx r).ctx k = s.ctx k from rfl]
    cases s.ctx k with
    | none => rfl
    | some c =>
      dsimp only
      rw [show (s.withRx r).template c.template = s.template c.template from rfl]
      cases s.template c.template with
      | none => rfl
      | some t =>
        dsimp only
        rw [State.withRx_beginStep]
        rcases s.beginStep own k c t with u | u | _
        · rfl
        · exact State.withRx_goOn own k n u
        · exact State.withRx_endProgrammes r s [k] .completed

theorem State.withRx_goOnSlot (own : Bool) (k : Nat) : (s.withRx r).goOnSlot own k = (s.goOnSlot own k).withRx r := by
  unfold State.goOnSlot
  rw [show (s.withRx r).ctx k = s.ctx k from rfl]
  cases s.ctx k with
  | none => rfl
  | some c =>
    dsimp only
    rw [show (s.withRx r).template c.template = s.template c.template from rfl]
    cases s.template c.template with
    | none => rfl
    | some t => exact State.withRx_goOn r own k _ s

theorem State.withRx_goesOn (k : Nat) : (s.withRx r).goesOn k = (s.goesOn k).withRx r := by
  unfold State.goesOn
  rw [show (s.withRx r).ctx k = s.ctx k from rfl]
  cases s.ctx k with
  | none => rfl
  | some c =>
    dsimp only
    split
    · exact State.withRx_goOnSlot r (s.setCtx k (some { c with todo := false })) true k
    · rfl

theorem State.withRx_turn (k : Nat) : (s.withRx r).turn k = (s.turn k).withRx r := by
  unfold State.turn
  rw [show (s.withRx r).ctx k = s.ctx k from rfl]
  cases s.ctx k with
  | none => rfl
  | some c =>
    dsimp only
    split
    · rfl
    · rw [State.withRx_goesOn, show ((s.goesOn k).withRx r).ctx k = (s.goesOn k).ctx k from rfl]
      cases (s.goesOn k).ctx k <;> rfl

end

/-! ### The stages of the standing order -/

/-- The contexts have their turns, behind the test of the restart condition (R17, R75). -/
def Work.turns (w : Work) : Work := (List.range 128).foldl Work.workSlot w.qualify

/-- The heads read and their timers count (R107, R110). -/
def Work.reads (w : Work) : Work := (List.range 24).foldl Work.headWork w

/-- The wait timers count (R110). -/
def Work.waits (w : Work) : Work := { w with s := w.s.countWaits }

/-- The channels hear their bytes (R133, R134). -/
def Work.captures (w : Work) : Work := (w.capture 0).capture 1

/-- All the work of a frame event, in the standing order. -/
def Work.standing (w : Work) : Work := w.turns.reads.waits.captures.parse.offer

theorem Work.foldl_standingActs (w : Work) : standingActs.foldl Work.act w = w.standing := by
  simp only [standingActs, List.foldl_append, List.foldl_cons, List.foldl_nil, List.foldl_map]
  rfl

theorem Work.arrival_turns (w : Work) : w.SameArrival w.turns :=
  w.arrival_qualify.trans (.foldl Work.arrival_workSlot _ _)

theorem Work.arrival_reads (w : Work) : w.SameArrival w.reads := .foldl Work.arrival_headWork _ w

theorem Work.arrival_captures (w : Work) : w.SameArrival w.captures :=
  (w.arrival_capture 0).trans (Work.arrival_capture _ 1)

theorem Work.arrival_standing (w : Work) : w.SameArrival w.standing := by
  rw [← Work.foldl_standingActs]
  exact w.arrival_acts _

/-! ### What each stage leaves -/

theorem State.backdrop_setCtx_goesOn (s : State) (k : Nat) : (s.goesOn k).backdrop = s.backdrop := by
  unfold State.goesOn
  split
  · rfl
  · dsimp only
    split
    · rw [State.backdrop_goOnSlot]; rfl
    · rfl

@[simp] theorem State.backdrop_turn (s : State) (k : Nat) : (s.turn k).backdrop = s.backdrop := by
  unfold State.turn
  split
  · rfl
  · split
    · rfl
    · dsimp only
      split <;> exact s.backdrop_setCtx_goesOn k

@[simp] theorem State.backdrop_upTo (s : State) (n : Nat) : (s.upTo n).backdrop = s.arriveFrame.backdrop :=
  foldl_keeps State.backdrop State.turn (fun t k => t.backdrop_turn k) _ _

theorem Work.backdrop_workSlot (w : Work) (k : Nat) : (w.workSlot k).s.backdrop = w.s.backdrop := by
  unfold Work.workSlot
  split
  · rfl
  · split
    · rfl
    · dsimp only
      split
      · rfl
      · have hgo : ∀ c : Ctx, (if c.state = .pending then (w.s.modifyCtx k fun c => { c with todo := false }).goOnSlot true k
            else w.s.modifyCtx k fun c => { c with todo := false }).backdrop = w.s.backdrop := fun c => by
          split
          · exact State.backdrop_goOnSlot ..
          · rfl
        split
        · exact hgo _
        · exact hgo _

theorem Work.backdrop_headWork (w : Work) (h : Nat) : (w.headWork h).s.backdrop = w.s.backdrop := by
  unfold Work.headWork
  split
  · rfl
  · split
    · exact State.backdrop_countHead ..
    · split
      · exact (State.backdrop_countHead ..).trans (State.backdrop_readHead ..)
      · rfl

theorem Work.backdrop_turns (w : Work) : w.turns.s.backdrop = w.qualify.s.backdrop :=
  foldl_keeps (fun w : Work => w.s.backdrop) Work.workSlot Work.backdrop_workSlot _ _

theorem Work.backdrop_reads (w : Work) : w.reads.s.backdrop = w.s.backdrop :=
  foldl_keeps (fun w : Work => w.s.backdrop) Work.headWork Work.backdrop_headWork _ _

/-- The channels change the store and their own records. -/
theorem Work.capture_s (w : Work) (c : Nat) : ∃ store caps,
    (w.capture c).s = { w.s with su := { w.s.su with store }, caps } := by
  unfold Work.capture
  split
  · exact ⟨_, _, rfl⟩
  · split
    · exact ⟨_, _, rfl⟩
    · split
      · exact ⟨_, _, rfl⟩
      · split
        · exact ⟨_, _, rfl⟩
        · unfold State.workCapture
          split
          · exact ⟨_, _, rfl⟩
          · split <;> exact ⟨_, _, rfl⟩

theorem Work.captures_s (w : Work) : ∃ store caps, w.captures.s = { w.s with su := { w.s.su with store }, caps } := by
  obtain ⟨store, caps, h⟩ := w.capture_s 0
  obtain ⟨store', caps', h'⟩ := (w.capture 0).capture_s 1
  exact ⟨store', caps', by rw [Work.captures, h', h]⟩

/-- What the parser makes of a service byte: its record, and the reason of a refusal as garbled (R143 to R146). -/
def OrderReceiver.hear (o : OrderReceiver) (b : Byte) (suspect : Bool) : OrderReceiver × Option Nat :=
  match o.parser with
  | .hunt => (if !suspect && b == startByte then { o with parser := .length } else o, none)
  | .length =>
    if suspect then ({ o with parser := .hunt }, some 2)
    else if 2 ≤ b.toNat ∧ b.toNat ≤ 72 then ({ o with parser := .body b.toNat [] b.toNat }, none)
    else ({ o with parser := .hunt }, some 0)
  | .body len bytes sum =>
    if suspect then ({ o with parser := .hunt }, some 2)
    else
      let kept := bytes ++ [b]
      let total := (sum + b.toNat) % 256
      ({ o with parser := (if kept.length = len then .check len kept total else .body len kept total) }, none)
  | .check _ bytes sum =>
    if suspect then ({ o with parser := .hunt }, some 2)
    else if (sum + b.toNat) % 256 = 0 then ({ parser := .hunt, due := some bytes }, none)
    else ({ o with parser := .hunt }, some 1)

/-- The sender once the parser has heard a byte: a garbled message is refused (R151). -/
def ReportSender.garbled (r : ReportSender) : Option Nat → ReportSender
  | some reason => r.note (.refused .garbled none reason)
  | none => r

@[simp] theorem ReportSender.garbled_urgent (r : ReportSender) (g : Option Nat) : (r.garbled g).urgent = r.urgent := by
  cases g <;> simp [ReportSender.garbled]
@[simp] theorem ReportSender.garbled_transmission (r : ReportSender) (g : Option Nat) :
    (r.garbled g).transmission = r.transmission := by cases g <;> simp [ReportSender.garbled]
@[simp] theorem ReportSender.garbled_hold (r : ReportSender) (g : Option Nat) : (r.garbled g).hold = r.hold := by
  cases g <;> simp [ReportSender.garbled]

/-- The parser changes its own record and, by a refusal, the ordinary queue. -/
theorem State.parseByte_eq (s : State) (b : Byte) (suspect : Bool) : s.parseByte b suspect = { s with
    orders := (s.orders.hear b suspect).1, sender := s.sender.garbled (s.orders.hear b suspect).2 } := by
  have hgarble : ∀ n, s.garble n = { s with
      orders := { s.orders with parser := .hunt }, sender := s.sender.note (.refused .garbled none n) } := fun n => by
    unfold State.garble State.refuseGarbled
    rw [State.queueOrdinary_eq]
    rfl
  unfold State.parseByte OrderReceiver.hear
  cases s.orders.parser with
  | hunt => dsimp only; split <;> rfl
  | length =>
    simp only [hgarble]
    split
    · rfl
    · split <;> rfl
  | body len bytes sum =>
    simp only [hgarble]
    split <;> rfl
  | check len bytes sum =>
    simp only [hgarble]
    split
    · rfl
    · split <;> rfl

theorem Work.parse_s (w : Work) : ∃ orders g, w.parse.s = { w.s with orders, sender := w.s.sender.garbled g } := by
  unfold Work.parse
  split
  · exact ⟨_, none, rfl⟩
  · dsimp only
    split
    · exact ⟨_, none, rfl⟩
    · split
      · exact ⟨_, _, State.parseByte_eq ..⟩
      · exact ⟨_, none, rfl⟩

theorem State.beginReport_eq (s : State) : ∃ sender sent,
    s.beginReport = { s with sender, pool := { s.pool with sentBegin := sent } } := by
  unfold State.beginReport
  split
  · exact ⟨_, _, rfl⟩
  · split <;> exact ⟨_, _, rfl⟩

theorem State.offerByte_eq (s : State) (mapped : Bool) : ∃ sender sent,
    (s.offerByte mapped).1 = { s with sender, pool := { s.pool with sentBegin := sent } } := by
  have hchoice : ∃ sender sent, (if s.mayBegin && mapped then s.beginReport else s) =
      { s with sender, pool := { s.pool with sentBegin := sent } } := by
    split
    · exact s.beginReport_eq
    · exact ⟨_, _, rfl⟩
  unfold State.offerByte
  split
  · exact ⟨_, _, rfl⟩
  · obtain ⟨sender, sent, h⟩ := hchoice
    dsimp only
    rw [h]
    split <;> exact ⟨_, _, rfl⟩

theorem Work.offer_s (w : Work) : ∃ sender sent,
    w.offer.s = { w.s with sender, pool := { w.s.pool with sentBegin := sent } } := by
  unfold Work.offer
  split
  · exact ⟨_, _, rfl⟩
  · split
    · exact ⟨_, _, rfl⟩
    · exact State.offerByte_eq ..

/-- Behind the heads' work only the wait timers, the channels with the store, the parser and the sender are changed. -/
theorem Work.waits_to_offer_s (w : Work) : ∃ store caps orders sender sent,
    w.waits.captures.parse.offer.s = { w.s with
      su := { w.s.su with store }, caps, orders, sender
      pool := { w.s.pool with queue := w.s.pool.queue.map Waiter.counted, sentBegin := sent } } := by
  obtain ⟨store, caps, hcap⟩ := w.waits.captures_s
  obtain ⟨orders, g, hparse⟩ := w.waits.captures.parse_s
  obtain ⟨sender, sent, hoffer⟩ := w.waits.captures.parse.offer_s
  exact ⟨store, caps, orders, sender, sent, by rw [hoffer, hparse, hcap]; rfl⟩

/-- A frame event in its standing order. -/
theorem exec_frameEvent_nil {s : State} (hq : s.quiet = true) (hdue : s.frameDue = true) (hs : s.inStore) :
    exec (.frameEvent []) s = .next (Work.start s).standing.finish := by
  rw [exec_frameEvent_of_due hq hdue hs, List.nil_append, Work.foldl_standingActs]

@[simp] theorem Work.finish_rx (w : Work) : w.finish.rx = w.s.rx := rfl

/-- The Lane Receiver behind a frame event is that of the test of the restart condition. -/
theorem Work.standing_rx (w : Work) : w.standing.s.rx = w.qualify.s.rx := by
  obtain ⟨store, caps, orders, sender, sent, h⟩ := w.turns.reads.waits_to_offer_s
  have hrx : w.turns.reads.s.rx = w.qualify.s.rx := State.rx_of_backdrop (w.turns.backdrop_reads.trans w.backdrop_turns)
  rw [Work.standing, h, ← hrx]

theorem Work.clockDue_qualify (w : Work) : w.qualify.s.rx.clockDue = w.s.rx.clockDue := by
  unfold Work.qualify
  split
  · rfl
  · show (w.s.rx.qualify _).clockDue = _
    unfold LaneReceiver.qualify
    split <;> rfl

/-- Behind a frame event none is due on the control lane, so that none is under way (R11). -/
theorem State.frameBegun_of_dueFrame {s t : State} (h : s.dueFrame [] = .next t) : t.frameBegun = false := by
  have hclock : t.rx.clockDue = false := by
    unfold State.dueFrame at h
    split at h
    · unfold runFrame at h
      rw [List.nil_append, Work.foldl_standingActs] at h
      dsimp only at h
      split at h
      · cases h
      · rw [← Host.Outcome.next.inj h]
        rw [Work.finish_rx, Work.standing_rx, Work.clockDue_qualify]
        rfl
    · next hdue =>
      rw [← Host.Outcome.next.inj h]
      simp only [State.frameDue, Bool.or_eq_true, not_or, Bool.not_eq_true] at hdue
      exact hdue.1
  simp [State.frameBegun, hclock]

end Sys2Proof.Machine

/-! PROOF. The Report Sender: the choice of a report, the offering of its bytes and its end (R125, R156 to R160). -/

namespace Sys2Proof.Machine

/-! ### The choice -/

theorem sentAfter_eq (before : Bool) (n : Notice) : sentAfter before n =
    if n = .shortageBegin then true else if n = .shortageEnd then false else before := by
  cases n <;> rfl

theorem reportBody_of_not_end {n : Notice} (h : n.isEnd = false) (drops waiters : Nat) (run : List Notice) :
    reportBody drops waiters n run = n.kindByte :: BitVec.ofNat 8 drops :: n.content waiters :=
  if_neg (by simp [h])

theorem reportBody_of_end {n : Notice} (h : n.isEnd = true) (drops waiters : Nat) (run : List Notice) :
    reportBody drops waiters n run =
      0x94 :: BitVec.ofNat 8 drops :: BitVec.ofNat 8 run.length :: run.flatMap Notice.endFields := by
  have hkind : n.kindByte = 0x94 := by cases n <;> first | rfl | cases h
  rw [reportBody, if_pos h, hkind]
  rfl

/-- The END notices at the front that go into one report: a run of eight, or one with no END notice behind it (R157). -/
theorem endRun_append {run rest : List Notice} (hends : ∀ n ∈ run, n.isEnd = true) (h8 : run.length ≤ 8)
    (hstop : run.length = 8 ∨ ∀ n, rest.head? = some n → n.isEnd = false) : endRun (run ++ rest) = run := by
  unfold endRun
  rw [List.takeWhile_append_of_pos hends]
  rcases hstop with h | h
  · rw [← h, List.take_left]
  · have hnone : rest.takeWhile Notice.isEnd = [] := by
      cases rest with
      | nil => rfl
      | cons n rest => rw [List.takeWhile_cons_of_neg (by simp [h n rfl])]
    rw [hnone, List.append_nil, List.take_of_length_le h8]

/-- The choice R156 and R157 name is the one that is made. -/
theorem State.beginReport_of_chooses {s : State} {body : List Byte} {urgent ordinary : List Notice} {sent : Bool}
    (h : s.chooses body urgent ordinary sent) : s.beginReport = { s with
      sender := { s.sender with urgent, ordinary, drops := 0, transmission := some ⟨messageOf body, 0⟩ }
      pool := { s.pool with sentBegin := sent } } := by
  unfold State.beginReport
  rcases h with ⟨n, hu, hend, rfl, rfl, rfl⟩ | ⟨hu, rfl, rfl, hord⟩
  · rw [hu]
    dsimp only
    rw [reportBody_of_not_end hend, sentAfter_eq]
    rfl
  · rw [hu]
    dsimp only
    rcases hord with ⟨n, ho, hend, rfl⟩ | ⟨run, ho, hne, h8, hends, hstop, rfl⟩
    · rw [ho]
      dsimp only
      rw [reportBody_of_not_end hend, if_neg (by simp [hend]), ← hu]
      rfl
    · cases run with
      | nil => exact absurd rfl hne
      | cons n run =>
        have hn : n.isEnd = true := hends n List.mem_cons_self
        have hrun : endRun (n :: (run ++ ordinary)) = n :: run := endRun_append hends h8 hstop
        have hfields : Notice.endFields = fun
            | .ended slot tag cause skipped => le8 slot ++ le8 tag ++ le8 cause.code ++ le8 skipped
            | .restarted _ | .lane _ _ _ | .shortageBegin | .shortageEnd | .refused _ _ _ | .status _ _ _ _
            | .checked _ _ _ _ | .captureEnd _ _ _ _ _ => [] := by
          funext n
          cases n <;> rfl
        rw [ho, List.cons_append]
        dsimp only
        rw [hrun, reportBody_of_end hn, if_pos hn, hfields, ← List.cons_append, List.drop_left, ← hu]
        rfl

theorem State.beginReport_of_empty {s : State} (hu : s.sender.urgent = []) (ho : s.sender.ordinary = []) :
    s.beginReport = s := by
  unfold State.beginReport
  rw [hu]
  dsimp only
  rw [ho]

theorem State.anyMapped_iff {s : State} : s.anyMapped = true ↔ s.control ≠ none := Option.isSome_iff_ne_none

theorem State.mayBegin_iff {s : State} :
    s.mayBegin = true ↔ s.sender.transmission = none ∧ s.sender.hold = false := by
  simp [State.mayBegin]

/-- The byte offered of a message in transmission is its next one (R158). -/
theorem State.offerByte_of_transmission {s : State} {x : Transmission} (hx : s.sender.transmission = some x)
    (hh : s.sender.hold = false) (mapped : Bool) : s.offerByte mapped =
      ({ s with sender := { s.sender with transmission := some { x with position := x.position + 1 } } },
        x.bytes.getD x.position idleFill) := by
  unfold State.offerByte
  rw [hh, show s.mayBegin = false by simp [State.mayBegin, hx]]
  simp only [Bool.false_and, Bool.false_eq_true, if_false, hx]

/-- Settles O60: the choice, the offering and the end of a report, and the order behind a choice. -/
theorem reportsBeginAndComplete : Obligations.ReportsBeginAndComplete := by
  have hbegin : ∀ s : State, s.quiet = true → exec .reportBegin s =
      .next (if s.frameDue && (s.mayBegin && s.anyMapped) then s.beginReport else s) := fun s hq => by
    show Host.Outcome.next _ = _
    rw [State.settle_of_quiet hq]
  refine ⟨fun s hq h => ?_, fun s hq hdue hc ht hh => ?_, fun s t i body hbegun hwf henc hframe => ?_,
    fun s x hx hh => ⟨fun b mapped hb => ?_, fun hend => ?_, fun hend => ?_⟩⟩
  · rw [hbegin s hq, if_neg]
    simp only [Bool.and_eq_true, State.mayBegin_iff, State.anyMapped_iff]
    rintro ⟨hdue, ⟨ht, hh⟩, hc⟩
    rcases h with h | h | h | h
    · rw [h] at hdue; cases hdue
    · exact hc h
    · exact h ht
    · rw [h] at hh; cases hh
  · have hbegun : exec .reportBegin s = .next s.beginReport := by
      rw [hbegin s hq, if_pos]
      simp only [Bool.and_eq_true, State.mayBegin_iff, State.anyMapped_iff]
      exact ⟨hdue, ⟨ht, hh⟩, hc⟩
    exact ⟨fun hu ho => by rw [hbegun, State.beginReport_of_empty hu ho],
      fun body urgent ordinary sent h => by rw [hbegun, State.beginReport_of_chooses h]⟩
  · have hdue : s.dueFrame [] = .next t := hframe
    have htaken : ∀ u, exec i u = u.takeMessage body (takeBody (Instr.lossOrder i) body) :=
      exec_of_encodeBody henc (by rintro ref args p rfl; rfl) (not_mem_all_of_wf hwf)
    rw [htaken, htaken, State.takeMessage, State.takeMessage, State.afterBegun, State.afterBegun, if_pos hbegun,
      State.frameBegun_of_dueFrame hdue, hdue]
    rfl
  · rw [State.offerByte_of_transmission hx hh, List.getD_eq_getElem?_getD, hb]
    rfl
  · show Host.Outcome.next s.dueReport = _
    rw [State.dueReport, State.reportDue, hx, Option.any_some, beq_iff_eq.2 hend]
    rfl
  · show Host.Outcome.next s.dueReport = _
    rw [State.dueReport, State.onDue_of_not]
    simp [State.reportDue, hx, hend]

end Sys2Proof.Machine

/-! PROOF. The contexts' part of a frame event: their turns in ascending order (R75), the source of every slot's output
(R69), and the turns where no context is PENDING. -/

namespace Sys2Proof.Machine

/-! ### What a turn keeps -/

/-- The turn of a slot keeps what the elementary updates keep and any record in that slot's place. -/
theorem KeptByPool.turn {P : State → Prop} (K : KeptByPool P) {k : Nat} (put : ∀ s c, P s → P (s.setCtx k c)) {s : State}
    (hP : P s) : P (s.turn k) := by
  have hgo : P (s.goesOn k) := by
    unfold State.goesOn
    split
    · exact hP
    · next c _ =>
      have hQ : P (s.setCtx k (some { c with todo := false })) := put s _ hP
      dsimp only
      split
      · exact K.goOnSlot (fun t => put t none) _ true hQ
      · exact hQ
  unfold State.turn
  split
  · exact hP
  · split
    · exact put s _ hP
    · dsimp only
      split
      · exact hgo
      · exact put _ _ hgo

/-- The contexts of slot `n` on have their frame work before them. -/
def State.toDoFrom (n : Nat) (s : State) : Prop := ∀ j, n ≤ j → ∀ y, s.ctx j = some y → y.todo = true

theorem keptByPool_toDoFrom (n : Nat) : KeptByPool (State.toDoFrom n) where
  modifyCtx s k f hf hP j hj y hy := by
    rw [State.ctx_modifyCtx] at hy
    split at hy
    · next hjk =>
      obtain ⟨z, hz, rfl⟩ := Option.map_eq_some_iff.1 hy
      rw [(hf z hz).todo]
      exact hP k (hjk ▸ hj) z hz
    · exact hP j hj y hy
  setHeadRun _ _ _ _ _ hP := hP
  setQueue t q _ hP j hj y hy := hP j hj y ((State.ctx_congr (by simp) j).symm.trans hy)
  queueOrdinary t n hP j hj y hy := hP j hj y ((State.ctx_congr (by simp) j).symm.trans hy)

theorem State.toDoFrom_upTo (s : State) (n : Nat) : (s.upTo n).toDoFrom n := by
  induction n with
  | zero =>
    intro j _ y hy
    rw [State.upTo_zero, State.ctx_arriveFrame] at hy
    obtain ⟨c, -, rfl⟩ := Option.map_eq_some_iff.1 hy
    rfl
  | succ n ih =>
    rw [State.upTo_succ]
    refine (keptByPool_toDoFrom (n + 1)).turn (fun t c hP j hj y hy => ?_) fun j hj => ih j (by omega)
    exact hP j hj y (by rwa [State.ctx_setCtx_ne (by omega)] at hy)

/-- The phrase samples of the heads are those of the state before. -/
def State.samplesOf (s t : State) : Prop := ∀ h, (t.head h).sample = (s.head h).sample

theorem State.keptByPool_samplesOf (s : State) : KeptByPool s.samplesOf where
  setHeadRun t h r _ _ hP g := by
    rw [State.head_setHeadRun]
    split
    · next hg => rw [hg.1]; exact hP h
    · exact hP g
  setQueue t q _ hP g := (congrArg Head.sample (State.head_congr (by rw [State.setQueue_pool]) g)).trans (hP g)
  queueOrdinary t n hP g := (congrArg Head.sample (State.head_congr (by rw [State.queueOrdinary_pool]) g)).trans (hP g)

/-- No head has handed on a sample before the heads' work. -/
theorem State.sample_upTo (s : State) (n h : Nat) : ((s.upTo n).head h).sample = none := by
  induction n with
  | zero => rw [State.upTo_zero, State.head_arriveFrame]
  | succ n ih =>
    rw [State.upTo_succ, ← ih]
    exact ((s.upTo n).keptByPool_samplesOf).turn (P := (s.upTo n).samplesOf) (fun _ _ hP => hP) (fun _ => rfl) h

theorem keptByPool_contexts_length (n : Nat) : KeptByPool fun s => s.seq.contexts.length = n where
  modifyCtx s k f _ hP := by rw [State.modifyCtx_contexts, List.length_modify]; exact hP
  setQueue s q _ hP := by rw [State.setQueue_seq]; exact hP
  queueOrdinary s n hP := by rw [State.queueOrdinary_seq]; exact hP

theorem State.contexts_length_upTo (s : State) (n : Nat) : (s.upTo n).seq.contexts.length = s.seq.contexts.length := by
  induction n with
  | zero => simp [State.arriveFrame]
  | succ n ih =>
    rw [State.upTo_succ, ← ih]
    exact (keptByPool_contexts_length _).turn
      (fun t c hP => by rw [State.setCtx_contexts, List.length_set]; exact hP) rfl

/-! ### The source of a slot's output -/

theorem State.sourceOf_congr {s t : State} (ht : t.seq.templates = s.seq.templates)
    (hc : t.bank.cadences = s.bank.cadences) (c : Ctx) : t.sourceOf c = s.sourceOf c := by
  have htemplate : t.template = s.template := funext fun n => by simp only [State.template, ht]
  have hcadence : t.cadence = s.cadence := funext fun n => by simp only [State.cadence, hc]
  have hstep : t.stepOf c = s.stepOf c := by simp only [State.stepOf, htemplate]
  simp only [State.sourceOf, htemplate, hcadence, hstep]

theorem State.sourceOf_of_backdrop {s t : State} (h : t.backdrop = s.arriveFrame.backdrop) (c : Ctx) :
    t.sourceOf c = s.sourceOf c :=
  State.sourceOf_congr (State.templates_of_backdrop h) (congrArg ToneBank.cadences (State.bank_of_backdrop h)) c

/-- The source of a slot's output by the record of its context, if any (R69). -/
def State.sourceOfAny (s : State) : Option Ctx → Source
  | some d => s.sourceOf d
  | none => .silent

theorem State.sourceOfAny_of_backdrop {s t : State} (h : t.backdrop = s.arriveFrame.backdrop) (o : Option Ctx) :
    t.sourceOfAny o = s.sourceOfAny o := by
  cases o with
  | none => rfl
  | some d => exact State.sourceOf_of_backdrop h d

theorem State.slotSource_eq (s : State) (k : Nat) : s.slotSource k = s.sourceOfAny (s.ctx k) := by
  unfold State.slotSource
  cases s.ctx k <;> rfl

theorem State.sourceOfAny_withRx (s : State) (r : LaneReceiver) (o : Option Ctx) :
    (s.withRx r).sourceOfAny o = s.sourceOfAny o := by
  cases o <;> rfl

/-- The source of the output of `slot` at a frame event, by the record it is formed from (R69). -/
def State.sourceAt (s : State) (slot : Nat) : Source := s.sourceOfAny (s.voiceOf slot)

/-- The frame work of a slot sets its source where the context has had no news. -/
theorem Work.workSlot_ys {w : Work} {k : Nat} (h : ∀ c, w.s.ctx k = some c → c.todo = true) :
    (w.workSlot k).ys = if (w.s.ctx k).any (fun c => !c.news) then
      w.ys.set k ((w.s.goesOn k).sourceOfAny ((w.s.goesOn k).ctx k)) else w.ys := by
  unfold Work.workSlot State.goesOn
  cases hc : w.s.ctx k with
  | none => rfl
  | some c =>
    simp only [h c hc, State.modifyCtx_eq_setCtx hc, Bool.not_true, Bool.false_eq_true, if_false, Option.any_some]
    cases c.news with
    | true => rfl
    | false =>
      simp only [Bool.false_eq_true, if_false, Bool.not_false, if_true]
      split
      · rename_i hd; simp only [State.setCtx, State.setContexts] at hd ⊢; rw [hd]; rfl
      · rename_i hd; simp only [State.setCtx, State.setContexts] at hd ⊢; rw [hd]; rfl

section
variable (s : State)

/-- The contexts of the first `n` slots have had their turns. -/
def State.turnsTo (n : Nat) : Work := (List.range n).foldl Work.workSlot (Work.start s).qualify

theorem State.turnsTo_succ (n : Nat) : s.turnsTo (n + 1) = (s.turnsTo n).workSlot n := by
  simp [State.turnsTo, List.range_succ]

/-- The work of the contexts is their turns; the Lane Receiver is that of the test of the restart condition. -/
theorem State.turnsTo_s (n : Nat) : (s.turnsTo n).s = (s.upTo n).withRx (Work.start s).qualify.s.rx := by
  induction n with
  | zero => rfl
  | succ n ih =>
    have htodo : ∀ c, (s.turnsTo n).s.ctx n = some c → c.todo = true := fun c hc => by
      rw [ih] at hc
      exact s.toDoFrom_upTo n n le_rfl c hc
    rw [State.turnsTo_succ, Work.workSlot_s _ _ htodo, ih, State.withRx_turn, State.upTo_succ]

theorem State.sourceAt_of_news {k : Nat} (h : ¬ ((s.upTo k).ctx k).any (fun c => !c.news) = true) :
    s.sourceAt k = s.arriveFrame.slotSource k := by
  rw [State.sourceAt, State.slotSource_eq, State.sourceOfAny_of_backdrop rfl]
  exact congrArg s.sourceOfAny (if_neg h)

theorem State.ys_turnsTo (n : Nat) : (s.turnsTo n).ys.length = 128 ∧ ∀ k < 128, (s.turnsTo n).ys[k]? =
    some (if k < n then s.sourceAt k else s.arriveFrame.slotSource k) := by
  induction n with
  | zero =>
    have hys : (s.turnsTo 0).ys = (List.range 128).map s.arriveFrame.slotSource := rfl
    rw [hys]
    exact ⟨by simp, fun k hk => by simp [hk]⟩
  | succ n ih =>
    have hstate := s.turnsTo_s n
    have htodo : ∀ c, (s.turnsTo n).s.ctx n = some c → c.todo = true := fun c hc => by
      rw [hstate] at hc
      exact s.toDoFrom_upTo n n le_rfl c hc
    obtain ⟨hlen, hys⟩ := ih
    rw [State.turnsTo_succ, Work.workSlot_ys htodo, hstate]
    have hctx : ((s.upTo n).withRx (Work.start s).qualify.s.rx).ctx n = (s.upTo n).ctx n := rfl
    rw [hctx, State.withRx_goesOn]
    by_cases hnews : ((s.upTo n).ctx n).any (fun c => !c.news) = true
    · have hsource : (((s.upTo n).goesOn n).withRx (Work.start s).qualify.s.rx).sourceOfAny
          ((((s.upTo n).goesOn n).withRx (Work.start s).qualify.s.rx).ctx n) = s.sourceAt n := by
        have hback : ((s.upTo n).goesOn n).backdrop = s.arriveFrame.backdrop :=
          (State.backdrop_setCtx_goesOn _ n).trans (s.backdrop_upTo n)
        have hvoice : s.voiceOf n = ((s.upTo n).goesOn n).ctx n := if_pos hnews
        rw [State.sourceAt, hvoice, ← State.sourceOfAny_of_backdrop hback]
        exact State.sourceOfAny_withRx ..
      rw [if_pos hnews, hsource]
      refine ⟨by rw [List.length_set, hlen], fun k hk => ?_⟩
      by_cases hkn : k = n
      · subst hkn
        rw [List.getElem?_set_self (by omega), if_pos (by omega)]
      · rw [List.getElem?_set_ne (Ne.symm hkn), hys k hk]
        simp only [show k < n + 1 ↔ k < n by omega]
    · rw [if_neg hnews]
      refine ⟨hlen, fun k hk => ?_⟩
      rw [hys k hk]
      by_cases hkn : k = n
      · subst hkn
        rw [if_neg (by omega), if_pos (by omega), s.sourceAt_of_news hnews]
      · simp only [show k < n + 1 ↔ k < n by omega]

theorem Work.turns_start : (Work.start s).turns = s.turnsTo 128 := rfl

end

/-! ### Turns without a going on -/

/-- The record of a context whose turn was counting alone (R75, R77). -/
def State.waited (s : State) (c : Ctx) : Ctx := s.counted { c.mark0 with todo := false }

theorem State.turn_of_not_pending {s : State} {k : Nat} {c : Ctx} (hc : s.ctx k = some c) (hn : c.news = false)
    (hp : c.state ≠ .pending) : s.turn k = s.setCtx k (some (s.counted { c with todo := false })) := by
  have hgo : s.goesOn k = s.setCtx k (some { c with todo := false }) := by
    unfold State.goesOn
    rw [hc]
    exact if_neg hp
  unfold State.turn
  rw [hc]
  dsimp only
  rw [if_neg (by simp [hn]), hgo, State.ctx_now hc]
  dsimp only
  rw [State.counted_eq]
  exact State.setCtx_setCtx s k _ _

theorem State.turn_of_none {s : State} {k : Nat} (hc : s.ctx k = none) : s.turn k = s := by
  unfold State.turn
  rw [hc]

theorem State.counted_congr {s t : State} (ht : t.seq.templates = s.seq.templates)
    (hc : t.bank.cadences = s.bank.cadences) (c : Ctx) : t.counted c = s.counted c := by
  have htemplate : t.template = s.template := funext fun n => by simp only [State.template, ht]
  have hcadence : t.cadence = s.cadence := funext fun n => by simp only [State.cadence, hc]
  have hstep : t.stepOf c = s.stepOf c := by simp only [State.stepOf, htemplate]
  simp only [State.counted, htemplate, hcadence, hstep]

/-- With no context PENDING the contexts' turns count and do nothing else. -/
theorem State.upTo_of_not_pending {s : State} (h : ∀ k c, s.ctx k = some c → c.state ≠ .pending) (n : Nat) :
    (∃ contexts, s.upTo n = s.arriveFrame.setContexts contexts) ∧
    ∀ k, (s.upTo n).ctx k = (s.ctx k).map fun c => if k < n then s.waited c else c.mark0 := by
  induction n with
  | zero => exact ⟨⟨_, rfl⟩, fun k => by simp⟩
  | succ n ih =>
    obtain ⟨⟨contexts, hstate⟩, hctx⟩ := ih
    rw [State.upTo_succ]
    cases hc : s.ctx n with
    | none =>
      rw [State.turn_of_none (by rw [hctx, hc]; rfl)]
      refine ⟨⟨contexts, hstate⟩, fun k => ?_⟩
      rw [hctx]
      by_cases hkn : k = n
      · subst hkn; rw [hc]; rfl
      · simp only [show k < n + 1 ↔ k < n by omega]
    | some c =>
      have hn : (s.upTo n).ctx n = some c.mark0 := by rw [hctx, hc]; simp
      have hcount : (s.upTo n).counted { c.mark0 with todo := false } = s.waited c :=
        State.counted_congr (by rw [hstate]; rfl) (by rw [hstate]; rfl) _
      rw [State.turn_of_not_pending hn rfl (h n c hc), hcount]
      refine ⟨⟨contexts.set n (some (s.waited c)), by rw [hstate]; rfl⟩, fun k => ?_⟩
      by_cases hkn : k = n
      · subst hkn
        rw [State.ctx_now hn, hc]
        simp
      · rw [State.ctx_setCtx_ne hkn, hctx]
        simp only [show k < n + 1 ↔ k < n by omega]

/-- With no context PENDING a context's output is formed from its record at the arrival. -/
theorem State.voiceOf_of_not_pending {s : State} (h : ∀ k c, s.ctx k = some c → c.state ≠ .pending) {k : Nat} {c : Ctx}
    (hc : s.ctx k = some c) : s.voiceOf k = some { c.mark0 with todo := false } := by
  have hk : (s.upTo k).ctx k = some c.mark0 := by
    rw [(State.upTo_of_not_pending h k).2, hc]
    simp
  have hgo : (s.upTo k).goesOn k = (s.upTo k).setCtx k (some { c.mark0 with todo := false }) := by
    unfold State.goesOn
    rw [hk]
    exact if_neg (h k c hc)
  unfold State.voiceOf
  rw [if_pos (by rw [hk]; rfl), hgo, State.ctx_now hk]

end Sys2Proof.Machine

/-! PROOF. The heads' part of a frame event (R107, R110, R117, R118): each head that is to read reads its byte, hands on its
sample and advances, and its hearers' cycles count; its timer counts. -/

namespace Sys2Proof.Machine

/-! ### One head -/

/-- The frame work of head `h`, where every byte it may read lies inside the store. -/
def State.readAt (s : State) (h : Nat) : State :=
  match s.headRun h with
  | none => s
  | some r => if r.reads then (s.readHead h r).countHead h else s.countHead h

theorem Work.Sound.headWork_s {w : Work} (hw : w.Sound) (h : Nat) : (w.headWork h).s = w.s.readAt h := by
  unfold Work.headWork State.readAt
  cases hr : w.s.headRun h with
  | none => rfl
  | some r =>
    cases hread : r.reads with
    | false => simp [hread]
    | true => simp [hread, hw.1.1 h r hr hread]

theorem Work.Sound.foldl_headWork_s {w : Work} (hw : w.Sound) (n : Nat) :
    ((List.range n).foldl Work.headWork w).s = (List.range n).foldl State.readAt w.s := by
  induction n with
  | zero => rfl
  | succ n ih =>
    have hn := hw.headWorks (List.range n)
    simp only [List.range_succ, List.foldl_append, List.foldl_cons, List.foldl_nil]
    rw [hn.headWork_s, ih]

theorem State.backdrop_readAt (s : State) (h : Nat) : (s.readAt h).backdrop = s.backdrop := by
  unfold State.readAt
  split
  · rfl
  · split
    · exact (State.backdrop_countHead ..).trans (State.backdrop_readHead ..)
    · exact State.backdrop_countHead ..

/-- What a head holds after its frame work, by what it held before. -/
def HeadRun.worked (r : HeadRun) : HeadRun :=
  { r with
    phase := if r.counts then r.counted.phase else r.phase
    offset := if r.reads then r.offsetAfter else r.offset
    hasRead := r.hasRead || r.reads
    counts := false }

/-- The sample a head has handed on after its frame work (R30, R107). -/
def State.sampleAt (s : State) (r : HeadRun) (before : Option Int) : Option Int :=
  if r.reads then some (phraseSample (storeRead s.su.store (r.start + r.offset)) r.trim) else before

theorem HeadRun.wrapped_eq {r : HeadRun} (h : r.mode = .cyclic) : r.wrapped = r.offsetAfter := by
  unfold HeadRun.wrapped HeadRun.offsetAfter
  rw [h]
  by_cases hl : r.offset + 1 < r.length
  · rw [if_pos hl, if_neg (by omega)]
  · rw [if_neg hl, if_pos ⟨rfl, by omega⟩]

theorem HeadRun.advance_eq (r : HeadRun) : r.advance = { r with hasRead := true, offset := r.offsetAfter } := by
  cases hm : r.mode with
  | cyclic => simp [HeadRun.advance, hm, HeadRun.wrapped_eq hm]
  | once => simp [HeadRun.advance, hm, HeadRun.offsetAfter]

theorem State.head_countHead_ne {s : State} {h g : Nat} (hg : g ≠ h) : (s.countHead h).head g = s.head g := by
  rcases s.countHead_cases h with ⟨r, -, -, he⟩ | ⟨he, -⟩
  · rw [he, State.head_setHeadRun_ne hg]
  · rw [he]

/-- The counting of a head's timer, by the record the head holds. -/
theorem State.head_countHead {s : State} {h : Nat} {r : HeadRun} (hr : s.headRun h = some r) :
    (s.countHead h).head h = { run := some { r with
      phase := if r.counts then r.counted.phase else r.phase, counts := false }, sample := (s.head h).sample } := by
  have hl := State.lt_of_headRun hr
  unfold State.countHead
  rw [hr]
  dsimp only
  cases hc : r.counts with
  | true =>
    rw [if_pos rfl, State.head_setHeadRun, if_pos ⟨rfl, hl⟩, if_pos rfl]
    rfl
  | false =>
    rw [if_neg (by simp), if_neg (by simp), ← hc]
    show s.head h = { run := some r, sample := (s.head h).sample }
    rw [← hr]
    rfl

theorem State.readHead_eq (s : State) (h : Nat) (r : HeadRun) : s.readHead h r =
    (s.setHeads (s.pool.heads.modify h fun x => { x with
      run := some r.advance
      sample := some (phraseSample (storeRead s.su.store (r.start + r.offset)) r.trim) })).modifyCtxs
      (if r.mode = .cyclic then s.subscribers h else []) fun c => c.countAt r.wrapped := by
  unfold State.readHead
  cases r.mode <;> rfl

theorem State.head_readHead_ne {s : State} {h g : Nat} (hg : g ≠ h) (r : HeadRun) : (s.readHead h r).head g = s.head g := by
  rw [State.readHead_eq, State.head_modifyCtxs, State.head_modifyHeads, if_neg fun hh => hg hh.1]

theorem State.head_readHead {s : State} {h : Nat} (hl : h < s.pool.heads.length) (r : HeadRun) :
    (s.readHead h r).head h = { run := some r.advance
                                sample := some (phraseSample (storeRead s.su.store (r.start + r.offset)) r.trim) } := by
  rw [State.readHead_eq, State.head_modifyCtxs, State.head_modifyHeads, if_pos ⟨rfl, hl⟩]

theorem State.head_readAt_ne {s : State} {h g : Nat} (hg : g ≠ h) : (s.readAt h).head g = s.head g := by
  unfold State.readAt
  split
  · rfl
  · split
    · rw [State.head_countHead_ne hg, State.head_readHead_ne hg]
    · exact State.head_countHead_ne hg

theorem State.head_readAt {s : State} {h : Nat} {r : HeadRun} (hr : s.headRun h = some r) :
    (s.readAt h).head h = { run := some r.worked, sample := s.sampleAt r (s.head h).sample } := by
  have hl := State.lt_of_headRun hr
  unfold State.readAt State.sampleAt
  rw [hr]
  dsimp only
  cases hread : r.reads with
  | false =>
    rw [if_neg (by simp), if_neg (by simp), State.head_countHead hr]
    simp [HeadRun.worked, hread]
  | true =>
    have hrun : (s.readHead h r).headRun h = some r.advance := by rw [State.headRun, State.head_readHead hl]
    rw [if_pos rfl, if_pos rfl, State.head_countHead hrun, State.head_readHead hl, HeadRun.advance_eq]
    simp [HeadRun.worked, hread, HeadRun.counted]

/-- What the frame work of head `h` makes of a context bound to it (R118). -/
def State.heardAt (s : State) (h k : Nat) (e : Ctx) : Ctx :=
  match s.headRun h with
  | some r => if r.reads = true ∧ r.mode = .cyclic ∧ k < 128 ∧ e.head = some h then e.countAt r.wrapped else e
  | none => e

theorem State.ctx_countHead (s : State) (h k : Nat) : (s.countHead h).ctx k = s.ctx k := by
  rcases s.countHead_cases h with ⟨r, -, -, he⟩ | ⟨he, -⟩ <;> rw [he]
  rfl

theorem State.ctx_readAt (s : State) (h k : Nat) : (s.readAt h).ctx k = (s.ctx k).map (s.heardAt h k) := by
  unfold State.readAt State.heardAt
  cases hr : s.headRun h with
  | none => simp
  | some r =>
    dsimp only
    cases hread : r.reads with
    | false => simp [State.ctx_countHead]
    | true =>
      rw [if_pos rfl, State.ctx_countHead, State.readHead_eq]
      cases hm : r.mode with
      | once => simp [State.modifyCtxs]; rfl
      | cyclic =>
        rw [if_pos rfl, State.ctx_modifyCtxs (s.nodup_subscribers h)]
        show (if k ∈ s.subscribers h then (s.ctx k).map _ else s.ctx k) = _
        by_cases hk : k ∈ s.subscribers h
        · obtain ⟨hlt, c, hc, hch⟩ := State.mem_subscribers.1 hk
          rw [if_pos hk, hc]
          simp [hlt, hch]
        · rw [if_neg hk]
          cases hc : s.ctx k with
          | none => rfl
          | some c =>
            have hno : ¬ (k < 128 ∧ c.head = some h) := fun ⟨hlt, hch⟩ => hk (State.mem_subscribers.2 ⟨hlt, c, hc, hch⟩)
            rw [Option.map_some, if_neg fun hh => hno ⟨hh.2.2.1, hh.2.2.2⟩]

/-! ### All heads -/

/-- The heads below `n` have done their frame work. -/
def State.readTo (s : State) (n : Nat) : State := (List.range n).foldl State.readAt s

theorem State.readTo_succ (s : State) (n : Nat) : s.readTo (n + 1) = (s.readTo n).readAt n := by
  simp [State.readTo, List.range_succ]

theorem State.backdrop_readTo (s : State) (n : Nat) : (s.readTo n).backdrop = s.backdrop :=
  foldl_keeps State.backdrop State.readAt State.backdrop_readAt _ s

theorem State.head_readTo_of_le {s : State} {n h : Nat} (hn : n ≤ h) : (s.readTo n).head h = s.head h := by
  induction n with
  | zero => rfl
  | succ n ih => rw [State.readTo_succ, State.head_readAt_ne (by omega), ih (by omega)]

theorem State.head_readTo {s : State} {n h : Nat} (hn : h < n) : (s.readTo n).head h = match s.headRun h with
    | some r => { run := some r.worked, sample := s.sampleAt r (s.head h).sample }
    | none => s.head h := by
  induction n with
  | zero => omega
  | succ n ih =>
    rw [State.readTo_succ]
    by_cases hh : h = n
    · subst hh
      have hhead := State.head_readTo_of_le (s := s) (le_refl h)
      have hrun : (s.readTo h).headRun h = s.headRun h := congrArg Head.run hhead
      cases hr : s.headRun h with
      | none =>
        rw [hr] at hrun
        unfold State.readAt
        rw [hrun]
        exact hhead
      | some r =>
        rw [hr] at hrun
        have hsu := State.su_of_backdrop (s.backdrop_readTo h)
        rw [State.head_readAt hrun, hhead]
        simp only [State.sampleAt, hsu]
    · rw [State.head_readAt_ne hh, ih (by omega)]

/-- What the frame work of the heads below `n` makes of the context of slot `k`: its own head's advance counts (R118). -/
def State.heardTo (s : State) (n k : Nat) (e : Ctx) : Ctx :=
  match e.head with
  | some h => if h < n then s.heardAt h k e else e
  | none => e

theorem Ctx.head_countAt (e : Ctx) (o : Nat) : (e.countAt o).head = e.head := by
  unfold Ctx.countAt; split <;> rfl

theorem State.head_heardAt (s : State) (h k : Nat) (e : Ctx) : (s.heardAt h k e).head = e.head := by
  unfold State.heardAt
  split
  · split
    · exact e.head_countAt _
    · rfl
  · rfl

theorem State.heardAt_of_ne (s : State) {h k : Nat} {e : Ctx} (he : e.head ≠ some h) : s.heardAt h k e = e := by
  unfold State.heardAt
  split
  · exact if_neg fun hh => he hh.2.2.2
  · rfl

theorem State.ctx_readTo (s : State) (n k : Nat) : (s.readTo n).ctx k = (s.ctx k).map (s.heardTo n k) := by
  induction n with
  | zero =>
    have hid : s.heardTo 0 k = id := by
      funext e
      unfold State.heardTo
      split <;> simp
    rw [hid, Option.map_id]
    rfl
  | succ n ih =>
    have hrun : (s.readTo n).heardAt n k = s.heardAt n k := by
      unfold State.heardAt
      rw [show (s.readTo n).headRun n = s.headRun n from congrArg Head.run (State.head_readTo_of_le le_rfl)]
    rw [State.readTo_succ, State.ctx_readAt, ih, hrun, Option.map_map]
    refine congrArg (fun f => (s.ctx k).map f) (funext fun e => ?_)
    show s.heardAt n k (s.heardTo n k e) = s.heardTo (n + 1) k e
    unfold State.heardTo
    cases he : e.head with
    | none => exact s.heardAt_of_ne (by simp [he])
    | some h =>
      dsimp only
      by_cases hn : h < n
      · rw [if_pos hn, if_pos (by omega)]
        exact s.heardAt_of_ne (by rw [State.head_heardAt, he]; simp; omega)
      · rw [if_neg hn]
        by_cases hh : h = n
        · subst hh; rw [if_pos (by omega)]
        · rw [if_neg (by omega)]
          exact s.heardAt_of_ne (by rw [he]; simpa using hh)

end Sys2Proof.Machine

/-! PROOF. A frame event in its standing order, as the programmes see it: output, heads, timers and cycles (R28, R33, R69, R75,
R107, R110, R117, R118). -/

namespace Sys2Proof.Machine

/-! ### The state behind the frame event -/

theorem State.queue_countHead (s : State) (h : Nat) : (s.countHead h).pool.queue = s.pool.queue := by
  rcases s.countHead_cases h with ⟨r, -, -, he⟩ | ⟨he, -⟩ <;> rw [he]
  rfl

theorem State.sender_countHead (s : State) (h : Nat) : (s.countHead h).sender = s.sender := by
  rcases s.countHead_cases h with ⟨r, -, -, he⟩ | ⟨he, -⟩ <;> rw [he]
  rfl

theorem State.queue_readAt (s : State) (h : Nat) : (s.readAt h).pool.queue = s.pool.queue := by
  unfold State.readAt
  split
  · rfl
  · split
    · rw [State.queue_countHead, State.readHead_eq, State.modifyCtxs_pool]; rfl
    · exact s.queue_countHead h

theorem State.sender_readAt (s : State) (h : Nat) : (s.readAt h).sender = s.sender := by
  unfold State.readAt
  split
  · rfl
  · split
    · rw [State.sender_countHead, State.readHead_eq, State.modifyCtxs_sender]; rfl
    · exact s.sender_countHead h

theorem State.queue_readTo (s : State) (n : Nat) : (s.readTo n).pool.queue = s.pool.queue :=
  foldl_keeps (fun s : State => s.pool.queue) State.readAt State.queue_readAt _ s

theorem State.sender_readTo (s : State) (n : Nat) : (s.readTo n).sender = s.sender :=
  foldl_keeps State.sender State.readAt State.sender_readAt _ s

theorem Work.Sound.turns {w : Work} (h : w.Sound) : w.turns.Sound :=
  foldl_inv Work.Sound Work.workSlot
    (fun w k h => ⟨keptInFrame_workInStore.workSlot w k h.1, (w.bad_workSlot k).trans h.2⟩) _ _ (h.act .qualify)

section
variable (s : State) (n m : Nat)

theorem State.su_upTo : (s.upTo n).su = s.su := (State.su_of_backdrop (s.backdrop_upTo n)).trans rfl
theorem State.bank_upTo : (s.upTo n).bank = s.arriveFrame.bank := State.bank_of_backdrop (s.backdrop_upTo n)
theorem State.slots_upTo : (s.upTo n).slots = s.slots := (State.slots_of_backdrop (s.backdrop_upTo n)).trans rfl
theorem State.templates_upTo : (s.upTo n).seq.templates = s.seq.templates :=
  (State.templates_of_backdrop (s.backdrop_upTo n)).trans rfl

/-- The state in which the contexts of the first `n` slots have had their turns and the heads below `m` have read. -/
def State.heard : State := ((s.upTo n).withRx (Work.start s).qualify.s.rx).readTo m

theorem State.backdrop_heard :
    (s.heard n m).backdrop = ((s.upTo n).withRx (Work.start s).qualify.s.rx).backdrop := State.backdrop_readTo _ m

theorem State.su_heard : (s.heard n m).su = s.su :=
  (State.su_of_backdrop (s.backdrop_heard n m)).trans (s.su_upTo n)

theorem State.bank_heard : (s.heard n m).bank = s.arriveFrame.bank :=
  (State.bank_of_backdrop (s.backdrop_heard n m)).trans (s.bank_upTo n)

theorem State.slots_heard : (s.heard n m).slots = s.slots :=
  (State.slots_of_backdrop (s.backdrop_heard n m)).trans (s.slots_upTo n)

theorem State.templates_heard : (s.heard n m).seq.templates = s.seq.templates :=
  (State.templates_of_backdrop (s.backdrop_heard n m)).trans (s.templates_upTo n)

theorem State.queue_heard : (s.heard n m).pool.queue = (s.upTo n).pool.queue := State.queue_readTo _ m

theorem State.sender_heard : (s.heard n m).sender = (s.upTo n).sender := State.sender_readTo _ m

variable {m}

/-- What a head holds and hands on behind its frame work (R107, R110). -/
theorem State.head_heard {h : Nat} (hh : h < m) {r : HeadRun} (hr : (s.upTo n).headRun h = some r) :
    (s.heard n m).head h = { run := some r.worked, sample := s.sampleAt r none } := by
  have hrun : ((s.upTo n).withRx (Work.start s).qualify.s.rx).headRun h = some r := hr
  have hsu : ((s.upTo n).withRx (Work.start s).qualify.s.rx).su = s.su := s.su_upTo n
  have hsample : (((s.upTo n).withRx (Work.start s).qualify.s.rx).head h).sample = none := s.sample_upTo n h
  rw [State.heard, State.head_readTo hh, hrun]
  simp only [State.sampleAt, hsu, hsample]

theorem State.head_heard_none {h : Nat} (hr : (s.upTo n).headRun h = none) :
    (s.heard n m).head h = { run := none, sample := none } := by
  have hhead : (s.upTo n).head h = { run := none, sample := none } := by
    rw [← hr, ← s.sample_upTo n h]
    rfl
  by_cases hh : h < m
  · have hrun : ((s.upTo n).withRx (Work.start s).qualify.s.rx).headRun h = none := hr
    rw [State.heard, State.head_readTo hh, hrun]
    exact hhead
  · rw [State.heard, State.head_readTo_of_le (by omega)]
    exact hhead

theorem State.sample_heard_of_le {h : Nat} (hh : m ≤ h) : ((s.heard n m).head h).sample = none := by
  rw [State.heard, State.head_readTo_of_le hh]
  exact s.sample_upTo n h

variable (m)

/-- A context behind the heads' work: its cycle is counted where it hears the advance to its mark (R118). -/
theorem State.ctx_heard (k : Nat) : (s.heard n m).ctx k = ((s.upTo n).ctx k).map ((s.upTo n).heardTo m k) :=
  State.ctx_readTo _ m k

end

theorem State.heard_eq {s : State} (hs : s.inStore) : (Work.start s).turns.reads.s = s.heard 128 24 := by
  rw [Work.reads, (Work.sound_start hs).turns.foldl_headWork_s, Work.turns_start, State.turnsTo_s, State.heard,
    State.readTo]

/-- The state behind a frame event, but for store, channels, orders and sender. -/
theorem State.standing_heard {s : State} (hs : s.inStore) : ∃ store caps orders sender sent,
    (Work.start s).standing.s = { s.heard 128 24 with
      su := { (s.heard 128 24).su with store }, caps, orders, sender
      pool := { (s.heard 128 24).pool with
        queue := (s.heard 128 24).pool.queue.map Waiter.counted, sentBegin := sent } } := by
  rw [← State.heard_eq hs]
  exact Work.waits_to_offer_s _

/-! ### Output -/

theorem Work.ys_headWork (w : Work) (h : Nat) : (w.headWork h).ys = w.ys := by
  unfold Work.headWork
  split
  · rfl
  · split
    · rfl
    · split <;> rfl

theorem Work.ys_capture (w : Work) (c : Nat) : (w.capture c).ys = w.ys := by
  unfold Work.capture
  split
  · rfl
  · split
    · rfl
    · split
      · rfl
      · split <;> rfl

theorem Work.ys_parse (w : Work) : w.parse.ys = w.ys := by unfold Work.parse; split <;> rfl

theorem Work.ys_offer (w : Work) : w.offer.ys = w.ys := by
  unfold Work.offer
  split
  · rfl
  · split <;> rfl

theorem Work.ys_waits (w : Work) : w.waits.ys = w.ys := rfl

theorem Work.ys_reads (w : Work) : w.reads.ys = w.ys := foldl_keeps Work.ys Work.headWork Work.ys_headWork _ w

theorem Work.ys_standing (w : Work) : w.standing.ys = w.turns.ys := by
  rw [Work.standing, Work.ys_offer, Work.ys_parse, Work.captures, Work.ys_capture, Work.ys_capture, Work.ys_waits,
    Work.ys_reads]

/-- The output of a slot whose source is that of the record `d` (R33, R69). -/
theorem Work.output_of_source {w : Work} {s : State} {k : Nat} {d : Ctx} (hy : w.ys.getD k .silent = s.sourceOf d)
    (ht : w.tones = s.bank.tones) : w.output k = if d.state = .playing then
      (match d.head with | some h => if d.hears then ((w.s.head h).sample).getD 0 else 0 | none => 0)
      else s.outputOf d := by
  unfold Work.output
  rw [hy, ht]
  unfold State.sourceOf State.outputOf
  cases d.state with
  | timed =>
    rw [if_neg (by simp)]
    dsimp only
    cases s.stepOf d with
    | none => rfl
    | some st =>
      cases st with
      | tone t c n => dsimp only [State.gatedTone]; cases gateOn (s.cadence c) d.position <;> rfl
      | silence | phrase | loop | digits | rep => rfl
  | waiting =>
    rw [if_neg (by simp)]
    dsimp only
    cases s.template d.template with
    | none => rfl
    | some t => dsimp only [State.gatedTone]; cases gateOn (s.cadence t.cadence) d.position <;> rfl
  | playing =>
    rw [if_pos rfl]
    dsimp only
    cases d.head with
    | none => rfl
    | some h => dsimp only; cases d.hears <;> rfl
  | gatherWait | pending => rfl

/-- The programme output of a slot at a frame event (R69). -/
theorem State.output_standing {s : State} {k : Nat} (hk : k < 128) :
    (Work.start s).standing.output k = s.soundOf (Work.start s).standing.finish k := by
  have hy : (Work.start s).standing.ys.getD k .silent = s.sourceAt k := by
    rw [List.getD_eq_getElem?_getD, Work.ys_standing, Work.turns_start, (s.ys_turnsTo 128).2 k hk, if_pos hk]
    rfl
  have ht : (Work.start s).standing.tones = s.bank.tones := (Work.arrival_standing _).tones
  generalize (Work.start s).standing = w at hy ht
  unfold State.soundOf
  unfold State.sourceAt at hy
  cases hv : s.voiceOf k with
  | none =>
    rw [hv] at hy
    unfold Work.output
    rw [hy]
    rfl
  | some d =>
    rw [hv] at hy
    exact Work.output_of_source hy ht

section
variable {s : State} {w : Work} (hw : (Work.start s).SameArrival w)
include hw

theorem Work.mix_of_bound {k : Nat} {c : Ctx} (hc : s.ctx k = some c) (b : Byte) :
    w.mix k b = insertedByte c.mode b (s.slots.getD k ⟨.through, 0⟩).pad (w.output k) := by
  have hctx : (Work.start s).base.ctx k = some c.mark0 := (s.ctx_arriveFrame k).trans (by rw [hc]; rfl)
  have hmode : c.mark0.mode = c.mode := rfl
  unfold Work.mix insertedByte
  rw [hw.base]
  simp only [hctx, hmode]
  cases c.mode <;> rfl

end

/-- The byte of a slot with a programme (R41, R42). -/
theorem State.frames_standing {s : State} {l p n : Nat} {x : Lane} {held : Held} {c : Ctx} (hl : l < 4)
    (hmap : s.map l = some p) (hx : s.lane p = some x) (hheld : contributes x held) (hn : n < 32)
    (hc : s.ctx (32 * l + n) = some c) : ∃ f, (Work.start s).standing.finish.tx.frames[p]? = some f ∧
      f.slots[n]? = some (insertedByte c.mode (held.frame.slots.getD n 0x00)
        (s.slots.getD (32 * l + n) ⟨.through, 0⟩).pad (s.soundOf (Work.start s).standing.finish (32 * l + n))) := by
  have hw := Work.arrival_standing (Work.start s)
  refine ⟨_, Work.getElem?_frames_finish _ (laneMap_eq_some hmap).1, ?_⟩
  rw [Work.getElem?_slots_outbound hw hl hmap hn, Work.mix_of_bound hw hc, Work.inbound_arrival hw hmap hx hheld hn,
    State.output_standing (by omega)]
  rfl

/-! ### The heads' phases and the contexts' cycles, in the statement's words -/

theorem HeadRun.reads_iff (r : HeadRun) : r.reads = true ↔ r.toRead := by
  simp [HeadRun.reads, HeadRun.toRead, Option.isSome_iff_ne_none]

/-- The phase of a head behind a frame event (R110). -/
def HeadRun.phaseAfter (r : HeadRun) : HeadPhase :=
  if r.counts = false then r.phase else match r.phase with
    | .gathering n => .gathering (n - 1)
    | .running => .running
    | .linger n => .linger (n - 1)

theorem HeadRun.worked_of_toRead {r : HeadRun} (h : r.toRead) : r.worked =
    { r with phase := r.phaseAfter, offset := r.offsetAfter, hasRead := true, counts := false } := by
  have hr := r.reads_iff.2 h
  unfold HeadRun.worked HeadRun.phaseAfter
  rw [hr, Bool.or_true, if_pos rfl]
  cases r.counts <;> rfl

theorem HeadRun.worked_of_not_toRead {r : HeadRun} (h : ¬ r.toRead) : r.worked =
    { r with phase := r.phaseAfter, counts := false } := by
  have hr : r.reads = false := by rw [← Bool.not_eq_true, r.reads_iff]; exact h
  unfold HeadRun.worked HeadRun.phaseAfter
  rw [hr, Bool.or_false, if_neg Bool.false_ne_true]
  cases r.counts <;> rfl

/-- The frame event counts a cycle of the context (R118). -/
def State.countsCycle (u : State) (e : Ctx) : Prop :=
  e.hears = true ∧ e.cycles ≠ 0 ∧ ∃ h < 24, ∃ r, e.head = some h ∧ u.headRun h = some r ∧ r.mode = .cyclic ∧ r.toRead ∧
    e.mark = r.offsetAfter

theorem Ctx.countAt_eq_ite (e : Ctx) (o : Nat) : e.countAt o = if e.hears = true ∧ e.mark = o ∧ e.cycles ≠ 0 then
    { e with cycles := e.cycles - 1, finished := e.cycles == 1 } else e := by
  unfold Ctx.countAt
  simp only [Bool.and_eq_true, beq_iff_eq, bne_iff_ne]

theorem State.heardTo_of_counts {u : State} {k : Nat} {e : Ctx} (hk : k < 128) (h : u.countsCycle e) :
    u.heardTo 24 k e = { e with cycles := e.cycles - 1, finished := e.cycles == 1 } := by
  obtain ⟨hears, hcycles, g, hg, r, hhead, hr, hmode, hread, hmark⟩ := h
  have hown : u.heardTo 24 k e = u.heardAt g k e := by
    unfold State.heardTo
    rw [hhead]
    exact if_pos hg
  rw [hown, State.heardAt, hr]
  dsimp only
  rw [if_pos ⟨r.reads_iff.2 hread, hmode, hk, hhead⟩, Ctx.countAt_eq_ite, HeadRun.wrapped_eq hmode,
    if_pos ⟨hears, hmark, hcycles⟩]

theorem State.heardTo_of_not_counts {u : State} {k : Nat} {e : Ctx} (h : ¬ u.countsCycle e) : u.heardTo 24 k e = e := by
  unfold State.heardTo
  cases hhead : e.head with
  | none => rfl
  | some g =>
    dsimp only
    split
    · next hg =>
      unfold State.heardAt
      cases hr : u.headRun g with
      | none => rfl
      | some r =>
        dsimp only
        split
        · next hcond =>
          obtain ⟨hread, hmode, -, -⟩ := hcond
          rw [Ctx.countAt_eq_ite, HeadRun.wrapped_eq hmode]
          exact if_neg fun ⟨hears, hmark, hcycles⟩ =>
            h ⟨hears, hcycles, g, hg, r, hhead, hr, hmode, r.reads_iff.1 hread, hmark⟩
        · rfl
    · rfl

theorem Waiter.counted_eq (w : Waiter) :
    w.counted = { w with timer := if w.counts then w.timer - 1 else w.timer, counts := false } := by
  obtain ⟨slot, phrase, kind, timer, counts⟩ := w
  cases counts <;> rfl

/-! ### With no context PENDING -/

section
variable {s : State} (hp : ∀ k c, s.ctx k = some c → c.state ≠ .pending)
include hp

theorem State.headRun_upTo_of_not_pending (n h : Nat) : (s.upTo n).headRun h = (s.headRun h).map HeadRun.mark0 := by
  obtain ⟨contexts, hstate⟩ := (State.upTo_of_not_pending hp n).1
  rw [hstate, ← State.headRun_arriveFrame]
  rfl

theorem State.queue_upTo_of_not_pending (n : Nat) :
    (s.upTo n).pool.queue = s.pool.queue.map fun w => { w with counts := true } := by
  obtain ⟨contexts, hstate⟩ := (State.upTo_of_not_pending hp n).1
  rw [hstate]
  rfl

/-- The sample a head hands on at the frame event is its output as it stood (R107). -/
theorem State.sample_of_not_pending {h : Nat} (hh : h < 24) :
    (((s.heard 128 24).head h).sample).getD 0 = s.headOutput h := by
  have hu := State.headRun_upTo_of_not_pending hp 128 h
  unfold State.headOutput
  cases hr : s.headRun h with
  | none =>
    rw [hr] at hu
    rw [s.head_heard_none 128 hu]
    rfl
  | some r =>
    rw [hr] at hu
    rw [s.head_heard 128 hh hu]
    dsimp only
    rcases hph : r.phase with t | _ | t <;> simp [State.sampleAt, HeadRun.reads, HeadRun.mark0, hph]

theorem State.sound_of_not_pending {k : Nat} {c : Ctx} (hc : s.ctx k = some c) {t : State}
    (ht : ∀ h, t.head h = (s.heard 128 24).head h) : s.soundOf t k = s.outputOf c := by
  unfold State.soundOf
  rw [State.voiceOf_of_not_pending hp hc]
  dsimp only
  by_cases hst : c.state = .playing
  · have hmark : c.mark0.state = .playing := hst
    have hears : c.mark0.hears = true := beq_iff_eq.2 hst
    rw [if_pos hmark, hears, State.outputOf, hst]
    show (match c.head with
      | some h => if true = true then ((t.head h).sample).getD 0 else 0
      | none => 0) = _
    cases c.head with
    | none => rfl
    | some h =>
      dsimp only
      rw [if_pos rfl, ht]
      by_cases hh : h < 24
      · rw [if_pos hh, State.sample_of_not_pending hp hh]
      · rw [if_neg hh, s.sample_heard_of_le 128 (by omega)]
        rfl
  · have hmark : c.mark0.state ≠ .playing := hst
    rw [if_neg hmark]
    rfl

end

/-- What a context whose turn was counting alone holds (R59, R60, R75, R77). -/
theorem State.waited_eq (s : State) (c : Ctx) : s.waited c = { c with
    todo := false, news := false, hears := c.state == .playing
    remaining := if c.state = .timed then c.remaining.map fun n => n - 1 else c.remaining
    position := match s.cadenceOf c with | some pairs => advancePosition pairs c.position | none => c.position } := by
  rw [State.waited, State.counted_eq]
  rfl

theorem HeadRun.offsetAfter_mark0 (r : HeadRun) : r.mark0.offsetAfter = r.offsetAfter := rfl

theorem HeadRun.toRead_mark0 {r : HeadRun} (h : ∀ timer, r.phase ≠ .gathering timer) : r.mark0.toRead := by
  rcases hph : r.phase with t | _ | t
  · exact absurd hph (h t)
  · simp [HeadRun.toRead, HeadRun.mark0, hph]
  · simp [HeadRun.toRead, HeadRun.mark0, hph]

theorem HeadRun.phaseAfter_mark0 (r : HeadRun) : r.mark0.phaseAfter = match r.phase with
    | .gathering n => .gathering (n - 1)
    | .running => .running
    | .linger n => .linger (n - 1) := by
  rcases hph : r.phase with t | _ | t <;> simp [HeadRun.phaseAfter, HeadRun.mark0, hph]

theorem HeadRun.worked_phase (r : HeadRun) : r.worked.phase = r.phaseAfter := by
  by_cases h : r.toRead
  · rw [HeadRun.worked_of_toRead h]
  · rw [HeadRun.worked_of_not_toRead h]

theorem State.heardTo_eq (u : State) (m k : Nat) (e : Ctx) :
    ∃ n b, u.heardTo m k e = { e with cycles := n, finished := b } := by
  unfold State.heardTo
  split
  · split
    · unfold State.heardAt
      split
      · split
        · exact e.countAt_eq _
        · exact ⟨_, _, rfl⟩
      · exact ⟨_, _, rfl⟩
    · exact ⟨_, _, rfl⟩
  · exact ⟨_, _, rfl⟩

section
variable {s : State} (hp : ∀ k c, s.ctx k = some c → c.state ≠ .pending)
include hp

/-- The record of a context behind a frame event with no context PENDING. -/
theorem State.ctx_heard_of_not_pending {k : Nat} {c : Ctx} (hk : k < 128) (hc : s.ctx k = some c) :
    (s.heard 128 24).ctx k = some ((s.upTo 128).heardTo 24 k (s.waited c)) := by
  rw [State.ctx_heard, (State.upTo_of_not_pending hp 128).2, hc, Option.map_some, if_pos hk, Option.map_some]

/-- A PLAYING context of a CYCLIC head counts a cycle where the head advances to its mark (R118). -/
theorem State.cycles_of_not_pending {k h : Nat} {c : Ctx} {r : HeadRun} (hk : k < 128) (hh : h < 24)
    (hst : c.state = .playing) (hhead : c.head = some h) (hr : s.headRun h = some r) (hmode : r.mode = .cyclic)
    (hphase : ∀ timer, r.phase ≠ .gathering timer) :
    ((s.upTo 128).heardTo 24 k (s.waited c)).cycles =
      if c.mark = (if r.length ≤ r.offset + 1 then 0 else r.offset + 1) then c.cycles - 1 else c.cycles := by
  have hrun : (s.upTo 128).headRun h = some r.mark0 := by
    rw [State.headRun_upTo_of_not_pending hp, hr]
    rfl
  have hoff : r.mark0.offsetAfter = if r.length ≤ r.offset + 1 then 0 else r.offset + 1 := by
    rw [HeadRun.offsetAfter_mark0, HeadRun.offsetAfter, hmode]
    simp
  have hw := s.waited_eq c
  generalize s.waited c = e at hw
  have hears : e.hears = true := by rw [hw]; exact beq_iff_eq.2 hst
  have hehead : e.head = some h := by rw [hw]; exact hhead
  have hcycles : e.cycles = c.cycles := by rw [hw]
  have hmark : e.mark = c.mark := by rw [hw]
  rw [← hoff, ← hcycles, ← hmark]
  by_cases hcounts : (s.upTo 128).countsCycle e
  · rw [State.heardTo_of_counts hk hcounts]
    obtain ⟨-, -, g, -, q, hg, hq, -, -, hmq⟩ := hcounts
    rw [hehead] at hg
    cases hg
    rw [hrun] at hq
    cases hq
    rw [if_pos hmq]
  · rw [State.heardTo_of_not_counts hcounts]
    split
    · next hm =>
      by_contra hne
      exact hcounts ⟨hears, fun h0 => hne (by rw [h0]), h, hh, _, hehead, hrun, hmode, HeadRun.toRead_mark0 hphase, hm⟩
    · rfl

end

/-- The state behind a frame event, as the programmes see it. -/
theorem Work.finish_of_state {w : Work} {v : State} {store : List Host.Cell} {caps : List (Option Capture)}
    {orders : OrderReceiver} {sender : ReportSender} {queue : List Waiter} {sent : Bool}
    (h : w.s = { v with su := { v.su with store }, caps, orders, sender
                        pool := { v.pool with queue, sentBegin := sent } }) :
    (∀ g, w.finish.head g = v.head g) ∧ (∀ k, w.finish.ctx k = v.ctx k) ∧ w.finish.slots = v.slots ∧
      w.finish.seq.templates = v.seq.templates ∧ w.finish.su = { v.su with store := w.finish.su.store } ∧
      w.finish.bank = v.bank ∧ w.finish.pool.queue = queue := by
  have hw : w.finish = { v with su := { v.su with store }, caps, orders, sender, tx := w.finish.tx
                                pool := { v.pool with queue, sentBegin := sent } } := by
    unfold Work.finish
    rw [h]
  rw [hw]
  exact ⟨fun _ => rfl, fun _ => rfl, rfl, rfl, rfl, rfl, rfl⟩

/-- Settles O54: the turns, then the heads, then the timers; with no context PENDING the turns count alone. -/
theorem frameEventRunsProgrammes : Obligations.FrameEventRunsProgrammes := by
  intro s hq hdue hs hlen u
  have hu : u = s.upTo 128 := rfl
  clear_value u
  have hexec := exec_frameEvent_nil hq hdue hs
  obtain ⟨store, caps, orders, sender, sent, hstate⟩ := State.standing_heard hs
  obtain ⟨hhead, hctx, hslots, htemplates, hsu, hbank, hqueue⟩ := Work.finish_of_state hstate
  have hframes := fun l p n x held c => State.frames_standing (s := s) (l := l) (p := p) (n := n) (x := x) (held := held)
    (c := c)
  generalize (Work.start s).standing.finish = t at hexec hframes hhead hctx hslots htemplates hsu hbank hqueue
  have hsound : ∀ l < 4, ∀ p, s.map l = some p → ∀ x held, s.lane p = some x → contributes x held → ∀ n < 32, ∀ c,
      s.ctx (32 * l + n) = some c → ∃ f, t.tx.frames[p]? = some f ∧ f.slots[n]? = some
        (insertedByte c.mode (held.frame.slots.getD n 0x00) (s.slots.getD (32 * l + n) ⟨.through, 0⟩).pad
          (s.soundOf t (32 * l + n))) :=
    fun l hl p hmap x held hx hheld n hn c hc => hframes l p n x held c hl hmap hx hheld hn hc
  refine ⟨t, hexec, hslots.trans (s.slots_heard 128 24), htemplates.trans (s.templates_heard 128 24), ?_, ?_, hsound,
    fun h _ hr => ?_, fun h hh r hr => ?_, ?_, fun k hk => ?_, fun k e he => ?_,
    fun hp => ⟨fun l hl p hmap x held hx hheld n hn c hc => ?_, fun h hh r hr hphase => ?_, fun h hh r hr => ?_, ?_,
      fun k c hc => ?_⟩⟩
  · rw [hsu, State.su_heard]
  · rw [hbank, State.bank_heard]
    rfl
  · rw [hu] at hr
    exact (hhead h).trans (s.head_heard_none 128 hr)
  · rw [hu] at hr
    have hr' := (hhead h).trans (s.head_heard 128 hh hr)
    refine ⟨fun hread => ?_, fun hread => ?_⟩
    · rw [hr', HeadRun.worked_of_toRead hread, State.sampleAt, if_pos (r.reads_iff.2 hread)]
      rfl
    · rw [hr', HeadRun.worked_of_not_toRead hread, State.sampleAt, if_neg (mt r.reads_iff.1 hread)]
      rfl
  · rw [hqueue, State.queue_heard, hu]
    exact List.map_congr_left fun w _ => w.counted_eq
  · rw [hu] at hk
    rw [hctx, State.ctx_heard, hk]
    rfl
  · rw [hu] at he
    have hk : k < 128 := by
      have := State.lt_of_ctx he
      rwa [State.contexts_length_upTo, hlen] at this
    rw [hu]
    refine ⟨fun hcounts => ?_, fun hcounts => ?_⟩
    · rw [hctx, State.ctx_heard, he, Option.map_some, State.heardTo_of_counts hk hcounts]
    · rw [hctx, State.ctx_heard, he, Option.map_some, State.heardTo_of_not_counts hcounts]
  · rw [← State.sound_of_not_pending hp hc hhead]
    exact hsound l hl p hmap x held hx hheld n hn c hc
  · have hr' : (s.upTo 128).headRun h = some r.mark0 := by
      rw [State.headRun_upTo_of_not_pending hp, hr]
      rfl
    have hread := HeadRun.toRead_mark0 hphase
    have hth := (hhead h).trans (s.head_heard 128 hh hr')
    have hsample := State.sample_of_not_pending hp hh
    rw [← hhead, hth, State.sampleAt, if_pos (HeadRun.reads_iff _ |>.2 hread)] at hsample
    refine ⟨?_, r.mark0.worked, by rw [State.headRun, hth], ?_⟩
    · rw [hth, State.sampleAt, if_pos (HeadRun.reads_iff _ |>.2 hread), ← hsample]
      rfl
    · rw [HeadRun.worked_of_toRead hread]
      exact ⟨rfl, rfl, rfl, rfl⟩
  · have hr' : (s.upTo 128).headRun h = some r.mark0 := by
      rw [State.headRun_upTo_of_not_pending hp, hr]
      rfl
    refine ⟨r.mark0.worked, by rw [State.headRun, hhead, s.head_heard 128 hh hr'], ?_⟩
    rw [HeadRun.worked_phase]
    exact r.phaseAfter_mark0
  · rw [hqueue, State.queue_heard, State.queue_upTo_of_not_pending hp, List.map_map]
    exact congrArg (fun f => List.map f s.pool.queue) (funext fun w => by rw [Function.comp, Waiter.counted_eq]; rfl)
  · have hk : k < 128 := hlen ▸ State.lt_of_ctx hc
    have hd := (hctx k).trans (State.ctx_heard_of_not_pending hp hk hc)
    have hcycles := fun h r => State.cycles_of_not_pending hp (h := h) (r := r) hk (c := c)
    obtain ⟨n, b, hsame⟩ := (s.upTo 128).heardTo_eq 24 k (s.waited c)
    generalize (s.upTo 128).heardTo 24 k (s.waited c) = d at hd hcycles hsame
    rw [State.waited_eq] at hsame
    exact ⟨d, hd, by rw [hsame], by rw [hsame], by rw [hsame], by rw [hsame], by cases hcad : s.cadenceOf c <;> simp [hsame, hcad],
      fun h hh r hst hch hr hmode hphase => hcycles h r hh hst hch hr hmode hphase⟩

end Sys2Proof.Machine

/-! PROOF. A frame event in its standing order, as the Lane Receiver, the Order Receiver, the Report Sender and the Capture
Channels see it (R12, R17, R133, R134, R142, R156 to R159). -/

namespace Sys2Proof.Machine

/-! ### The frames taken and the restart condition -/

theorem Lane.take_eq (x : Lane) : x.take = if x.align ≠ .aligned then x else { x with
    store := none
    last := if x.store = none then x.last else x.store
    slips := if x.store = none ∧ x.last ≠ none then min 255 (x.slips + 1) else x.slips } := by
  obtain ⟨align, search, expected, identity, checks, losses, mismatches, store, last, slips, late⟩ := x
  cases align with
  | aligned => cases store <;> cases last <;> simp [Lane.take, Lane.contribution]
  | hunt | check | spare => rfl

theorem Lane.contribution_eq_some {x : Lane} (ha : x.align = .aligned) {held : Held} :
    x.contribution = some held ↔ contributes x held := by
  unfold Lane.contribution contributes
  rw [ha]
  dsimp only
  cases x.store <;> simp

/-- The frame of logical lane `l`, by the map of a state with the map of the arrival. -/
theorem Work.frameOf_eq_some {s t : State} {w : Work} (hw : (Work.start s).SameArrival w) (ht : ∀ l, t.map l = s.map l)
    {l : Nat} {held : Held} : w.frameOf t l = some held ↔
      ∃ p x, s.map l = some p ∧ s.lane p = some x ∧ contributes x held := by
  have htaken : w.taken = s.rx.lanes.map Lane.contribution := hw.taken
  unfold Work.frameOf
  rw [ht, htaken]
  cases hmap : s.map l with
  | none => simp
  | some p =>
    obtain ⟨-, x, hx, hheld⟩ := laneMap_eq_some hmap
    have ha := (Lane.aligned_of_holds hheld).1
    have hlane : s.lane p = some x := hx
    simp only [List.getD_eq_getElem?_getD, List.getElem?_map, hx, Option.map_some, Option.getD_some,
      Lane.contribution_eq_some ha]
    refine ⟨fun h => ⟨p, x, rfl, hlane, h⟩, ?_⟩
    rintro ⟨q, y, hq, hy, h⟩
    cases hq
    rw [hlane] at hy
    cases hy
    exact h

theorem Work.restartCondition_iff (s : State) : (Work.start s).restartCondition s.arriveFrame = true ↔
    ∀ l < 4, s.rx.restartSet.getLsbD l = true → ∃ p x held, s.map l = some p ∧ s.lane p = some x ∧ contributes x held ∧
      held.suspect = false ∧ held.frame.service = 0x5A := by
  have hset : s.arriveFrame.rx.restartSet = s.rx.restartSet := rfl
  have hframe := fun l held => Work.frameOf_eq_some (.refl (Work.start s)) s.map_arriveFrame (l := l) (held := held)
  unfold Work.restartCondition
  simp only [List.all_eq_true, List.mem_range, hset, Bool.or_eq_true, Bool.not_eq_true', Option.any_eq_true, hframe,
    Bool.and_eq_true, beq_iff_eq, restartByte]
  refine forall₂_congr fun l _ => ⟨fun h hb => ?_, fun h => ?_⟩
  · rcases h with h | ⟨held, ⟨p, x, hmap, hx, hheld⟩, hsus, hserv⟩
    · rw [hb] at h; cases h
    · exact ⟨p, x, held, hmap, hx, hheld, hsus, hserv⟩
  · cases hb : s.rx.restartSet.getLsbD l with
    | false => exact .inl rfl
    | true =>
      obtain ⟨p, x, held, hmap, hx, hheld, hsus, hserv⟩ := h hb
      exact .inr ⟨held, ⟨p, x, hmap, hx, hheld⟩, hsus, hserv⟩

/-- The Lane Receiver behind the test of the restart condition (R12, R17). -/
theorem Work.rx_qualify_start (s : State) {holds : Bool} (h : (Work.start s).restartCondition s.arriveFrame = holds) :
    (Work.start s).qualify.s.rx = { s.rx with
      lanes := s.rx.lanes.map Lane.take, clockDue := false
      qualCount := if s.rx.armed && holds then s.rx.qualCount + 1 else 0
      armed := s.rx.armed || !holds
      restarting := s.rx.armed && holds && decide (1599 ≤ s.rx.qualCount) } := by
  have hq : (Work.start s).qualify.s.rx =
      { s.arriveFrame.rx.qualify ((Work.start s).restartCondition s.arriveFrame) with
        restarting := s.rx.armed && ((Work.start s).restartCondition s.arriveFrame &&
          decide (1600 ≤ s.rx.qualCount + 1)) } := rfl
  have h1600 : decide (1600 ≤ s.rx.qualCount + 1) = decide (1599 ≤ s.rx.qualCount) := decide_eq_decide.2 (by omega)
  rw [hq, h, h1600]
  unfold LaneReceiver.qualify State.arriveFrame
  cases s.rx.armed <;> cases holds <;> rfl

/-! ### The state in which the channels work -/

section
variable (s : State) (n m : Nat)

theorem State.caps_upTo : (s.upTo n).caps = s.arriveFrame.caps := State.caps_of_backdrop (s.backdrop_upTo n)

theorem State.orders_upTo : (s.upTo n).orders = s.orders := (State.orders_of_backdrop (s.backdrop_upTo n)).trans rfl

theorem State.caps_heard : (s.heard n m).caps = s.arriveFrame.caps :=
  (State.caps_of_backdrop (s.backdrop_heard n m)).trans (s.caps_upTo n)

theorem State.orders_heard : (s.heard n m).orders = s.orders :=
  (State.orders_of_backdrop (s.backdrop_heard n m)).trans (s.orders_upTo n)

theorem State.sentBegin_upTo : (s.upTo n).pool.sentBegin = s.pool.sentBegin :=
  (State.sentBegin_of_backdrop (s.backdrop_upTo n)).trans rfl

theorem State.sentBegin_heard : (s.heard n m).pool.sentBegin = s.pool.sentBegin :=
  (State.sentBegin_of_backdrop (s.backdrop_heard n m)).trans (s.sentBegin_upTo n)

theorem State.transmission_upTo : (s.upTo n).sender.transmission = s.sender.transmission :=
  (State.transmission_of_backdrop (s.backdrop_upTo n)).trans rfl

theorem State.hold_upTo : (s.upTo n).sender.hold = s.sender.hold :=
  (State.hold_of_backdrop (s.backdrop_upTo n)).trans rfl

end

theorem State.countWaits_sentBegin (s : State) : s.countWaits.pool.sentBegin = s.pool.sentBegin := rfl
theorem State.countWaits_queue_length (s : State) : s.countWaits.pool.queue.length = s.pool.queue.length :=
  List.length_map ..

theorem Work.waits_s (w : Work) : w.waits.s = w.s.countWaits := rfl

theorem Work.arrival_waits (w : Work) : w.SameArrival w.waits := ⟨rfl, rfl, rfl⟩

theorem Work.Sound.waits {w : Work} (h : w.Sound) : w.waits.Sound := ⟨keptInFrame_workInStore.countWaits _ h.1, h.2⟩

theorem Work.Sound.reads {w : Work} (h : w.Sound) : w.reads.Sound := h.headWorks _

/-- The contexts, the heads and the wait timers have done their frame work. -/
def State.timed (s : State) : Work := (Work.start s).turns.reads.waits

theorem State.arrival_timed (s : State) : (Work.start s).SameArrival s.timed := by
  unfold State.timed
  exact ((Work.arrival_turns _).trans (Work.arrival_reads _)).trans (Work.arrival_waits _)

section
variable {s : State} (hs : s.inStore)
include hs

theorem State.timed_s : s.timed.s = (s.heard 128 24).countWaits := by
  rw [State.timed, Work.waits_s, State.heard_eq hs]

theorem State.timed_sound : s.timed.Sound := by
  unfold State.timed
  exact (Work.sound_start hs).turns.reads.waits

theorem State.timed_su : s.timed.s.su = s.su := by
  rw [State.timed_s hs, State.countWaits_su, State.su_heard]

theorem State.timed_capture (c : Nat) : s.timed.s.capture c = (s.capture c).map fun x => { x with todo := true } := by
  rw [← State.capture_arriveFrame, State.capture, State.capture, State.timed_s hs, State.countWaits_caps,
    State.caps_heard]

theorem State.timed_orders : s.timed.s.orders = s.orders := by
  rw [State.timed_s hs, State.countWaits_orders, State.orders_heard]

theorem State.timed_sender : s.timed.s.sender = (s.upTo 128).sender := by
  rw [State.timed_s hs, State.countWaits_sender, State.sender_heard]

theorem State.timed_sentBegin : s.timed.s.pool.sentBegin = s.pool.sentBegin := by
  rw [State.timed_s hs, State.countWaits_sentBegin, State.sentBegin_heard]

theorem State.timed_queue_length : s.timed.s.pool.queue.length = (s.upTo 128).pool.queue.length := by
  rw [State.timed_s hs, State.countWaits_queue_length, State.queue_heard]

end

/-! ### One channel -/

/-- What a channel's record becomes at its frame work (R133, R134). -/
def Capture.hear (x : Capture) (b : Byte) (suspect : Bool) : Capture :=
  match x.phase with
  | .recording => { x.classify b suspect with todo := false }
  | .waitingVoice timer =>
    if x.loud b suspect then { x.classify b suspect with todo := false }
    else { x with phase := .waitingVoice (timer - 1), todo := false }

theorem State.capture_setCapture_ne {s : State} {c d : Nat} (h : d ≠ c) (x : Option Capture) :
    (s.setCapture c x).capture d = s.capture d := by
  rw [State.capture_eq, State.capture_eq]
  simp [State.setCapture, Ne.symm h]

theorem State.lt_of_capture {s : State} {c : Nat} {x : Capture} (h : s.capture c = some x) : c < s.caps.length := by
  by_contra hge
  rw [State.capture_eq, List.getElem?_eq_none (by omega)] at h
  cases h

theorem State.capture_setCapture_same {s : State} {c : Nat} (h : c < s.caps.length) (x : Option Capture) :
    (s.setCapture c x).capture c = x := by
  rw [State.capture_eq]
  simp [State.setCapture, h]

theorem Work.capture_of_channel {w : Work} (hw : w.Sound) {c : Nat} {x : Capture} {b : Byte} {suspect : Bool}
    (hx : w.s.capture c = some x) (htodo : x.todo = true) (hin : w.inbound x.slot = some (b, suspect)) :
    (w.capture c).s = w.s.workCapture c { x with todo := false } b suspect := by
  have hplace := hw.1.2 c x hx htodo
  unfold Work.capture
  rw [hx]
  dsimp only
  rw [htodo, hin]
  simp only [Bool.not_true, Bool.false_eq_true, if_false]
  rw [if_neg (by simp only [Bool.and_eq_true, decide_eq_true_eq, not_and]; omega)]

theorem State.capture_writeByte {s : State} {c : Nat} (h : c < s.caps.length) (x : Capture) (b : Byte) (suspect : Bool) :
    (s.writeByte c x b suspect).capture c = some (x.classify b suspect) :=
  State.capture_setCapture_same (s := { s with su := { s.su with
    store := storeWrite s.su.store (x.start + x.written) (capturedByte b suspect) } }) h _

theorem State.capture_workCapture {s : State} {c : Nat} (h : c < s.caps.length) (x : Capture) (b : Byte)
    (suspect : Bool) : (s.workCapture c { x with todo := false } b suspect).capture c = some (x.hear b suspect) := by
  unfold State.workCapture Capture.hear
  cases hph : x.phase with
  | recording => exact State.capture_writeByte h _ _ _
  | waitingVoice timer =>
    dsimp only
    split
    · next hl =>
      rw [if_pos (show x.loud b suspect = true from hl)]
      exact State.capture_writeByte h _ _ _
    · next hl =>
      rw [if_neg (show ¬ x.loud b suspect = true from hl)]
      exact State.capture_setCapture_same h _

/-- A channel writes at its own place and nowhere else (R134). -/
theorem State.store_workCapture (s : State) (c : Nat) (x : Capture) (b : Byte) (suspect : Bool) :
    (s.workCapture c x b suspect).su.store = if x.writes b suspect then
      storeWrite s.su.store (x.start + x.written) (capturedByte b suspect) else s.su.store := by
  unfold State.workCapture Capture.writes
  cases x.phase with
  | recording => rfl
  | waitingVoice timer =>
    dsimp only
    cases x.loud b suspect <;> rfl

theorem Work.capture_cases (w : Work) (c : Nat) : (w.capture c).s = w.s ∨ ∃ x b suspect, w.s.capture c = some x ∧
    (w.capture c).s = w.s.workCapture c { x with todo := false } b suspect := by
  unfold Work.capture
  split
  · exact .inl rfl
  · next x hx =>
    split
    · exact .inl rfl
    · split
      · exact .inl rfl
      · split
        · exact .inl rfl
        · exact .inr ⟨x, _, _, hx, rfl⟩

theorem Work.capture_other (w : Work) {c d : Nat} (h : d ≠ c) : (w.capture c).s.capture d = w.s.capture d := by
  rcases w.capture_cases c with he | ⟨x, b, suspect, -, he⟩
  · rw [he]
  · rw [he]
    unfold State.workCapture State.writeByte
    split
    · exact State.capture_setCapture_ne h _
    · split
      · exact State.capture_setCapture_ne h _
      · exact State.capture_setCapture_ne h _

theorem Work.store_capture_of_ne (w : Work) {c a : Nat}
    (h : ∀ x, w.s.capture c = some x → x.start + x.written ≠ a) :
    storeRead (w.capture c).s.su.store a = storeRead w.s.su.store a := by
  rcases w.capture_cases c with he | ⟨x, b, suspect, hx, he⟩
  · rw [he]
  · rw [he, State.store_workCapture]
    split
    · exact storeRead_storeWrite_other (Ne.symm (h x hx)) _
    · rfl

theorem Work.store_capture_own {w : Work} (hw : w.Sound) (hlaw : w.s.storeLaw) {c : Nat} {x : Capture} {b : Byte}
    {suspect : Bool} (hx : w.s.capture c = some x) (htodo : x.todo = true)
    (hin : w.inbound x.slot = some (b, suspect)) (hwrites : x.writes b suspect = true) :
    storeRead (w.capture c).s.su.store (x.start + x.written) = capturedByte b suspect := by
  rw [Work.capture_of_channel hw hx htodo hin, State.store_workCapture]
  have hwrites' : Capture.writes { x with todo := false } b suspect = true := hwrites
  rw [if_pos hwrites']
  exact storeRead_storeWrite_same hlaw

/-! ### The marks of the work -/

/-- Two stages of the work of one frame event between which neither the parser nor the sender has had its act. -/
structure Work.SameMarks (w v : Work) : Prop where
  parsed : v.parsed = w.parsed
  offered : v.offered = w.offered
  restarted : v.restarted = w.restarted

namespace Work.SameMarks

theorem refl (w : Work) : w.SameMarks w := ⟨rfl, rfl, rfl⟩

theorem trans {u v w : Work} (h : u.SameMarks v) (k : v.SameMarks w) : u.SameMarks w :=
  ⟨k.parsed.trans h.parsed, k.offered.trans h.offered, k.restarted.trans h.restarted⟩

theorem foldl {α : Type} {f : Work → α → Work} (hf : ∀ (w : Work) (a : α), w.SameMarks (f w a)) (l : List α) (w : Work) :
    w.SameMarks (l.foldl f w) :=
  foldl_inv (fun v => w.SameMarks v) f (fun v a h => h.trans (hf v a)) l w (refl w)

end Work.SameMarks

theorem Work.marks_qualify (w : Work) : w.SameMarks w.qualify := by
  unfold Work.qualify; split <;> exact ⟨rfl, rfl, rfl⟩

theorem Work.marks_workSlot (w : Work) (k : Nat) : w.SameMarks (w.workSlot k) := by
  unfold Work.workSlot
  split
  · exact .refl w
  · split
    · exact .refl w
    · dsimp only
      split
      · exact ⟨rfl, rfl, rfl⟩
      · split <;> exact ⟨rfl, rfl, rfl⟩

theorem Work.marks_headWork (w : Work) (h : Nat) : w.SameMarks (w.headWork h) := by
  unfold Work.headWork
  split
  · exact .refl w
  · split
    · exact ⟨rfl, rfl, rfl⟩
    · split <;> exact ⟨rfl, rfl, rfl⟩

theorem Work.marks_capture (w : Work) (c : Nat) : w.SameMarks (w.capture c) := by
  unfold Work.capture
  split
  · exact .refl w
  · split
    · exact .refl w
    · split
      · exact .refl w
      · split <;> exact ⟨rfl, rfl, rfl⟩

theorem Work.marks_waits (w : Work) : w.SameMarks w.waits := ⟨rfl, rfl, rfl⟩

theorem Work.marks_captures (w : Work) : w.SameMarks w.captures := (w.marks_capture 0).trans (Work.marks_capture _ 1)

theorem Work.marks_turns (w : Work) : w.SameMarks w.turns :=
  w.marks_qualify.trans (.foldl Work.marks_workSlot _ _)

theorem Work.marks_reads (w : Work) : w.SameMarks w.reads := .foldl Work.marks_headWork _ w

theorem Work.marks_timed (w : Work) : w.SameMarks w.turns.reads.waits :=
  (w.marks_turns.trans (Work.marks_reads _)).trans (Work.marks_waits _)

theorem Work.offered_parse (w : Work) : w.parse.offered = w.offered ∧ w.parse.restarted = w.restarted := by
  unfold Work.parse; split <;> exact ⟨rfl, rfl⟩

/-! ### The parser's and the sender's acts -/

theorem Work.parse_of_unmapped {w : Work} (hc : w.base.control = none) : w.parse.s = w.s := by
  unfold Work.parse
  split
  · rfl
  · simp only [hc]

theorem Work.parse_of_frame {w : Work} (hp : w.parsed = false) {l : Nat} {held : Held} (hc : w.base.control = some l)
    (hf : w.frameOf w.base l = some held) : w.parse.s = w.s.parseByte held.frame.service held.suspect := by
  unfold Work.parse
  simp only [hp, Bool.false_eq_true, if_false, hc, hf]

theorem Work.offer_eq {w : Work} (ho : w.offered = none) (hr : w.restarted = false) : w.offer =
    { w with s := (w.s.offerByte w.base.anyMapped).1, offered := some (w.s.offerByte w.base.anyMapped).2 } := by
  unfold Work.offer
  simp only [ho, hr, Option.isSome_none, Bool.false_eq_true, if_false]

theorem Work.offer_of_offered {w : Work} {b : Byte} (ho : w.offered = some b) : w.offer = w := by
  unfold Work.offer
  simp only [ho, Option.isSome_some, if_true]

theorem State.offerByte_of_hold {s : State} (hh : s.sender.hold = true) (mapped : Bool) :
    s.offerByte mapped = ({ s with sender := { s.sender with hold := false } }, idleFill) := if_pos hh

theorem State.offerByte_of_empty {s : State} (hh : s.sender.hold = false) (ht : s.sender.transmission = none)
    (hu : s.sender.urgent = []) (ho : s.sender.ordinary = []) (mapped : Bool) :
    s.offerByte mapped = (s, idleFill) := by
  unfold State.offerByte
  simp only [hh, Bool.false_eq_true, if_false, State.beginReport_of_empty hu ho, ite_self, ht]

theorem State.offerByte_of_unmapped {s : State} (hh : s.sender.hold = false) (ht : s.sender.transmission = none) :
    s.offerByte false = (s, idleFill) := by
  unfold State.offerByte
  simp only [hh, Bool.and_false, Bool.false_eq_true, if_false, ht]

/-- The start byte of the report chosen is offered as it begins (R156, R158). -/
theorem State.offerByte_of_chooses {s : State} {body : List Byte} {urgent ordinary : List Notice} {sent : Bool}
    (hh : s.sender.hold = false) (ht : s.sender.transmission = none) (h : s.chooses body urgent ordinary sent) :
    s.offerByte true = ({ s with
      sender := { s.sender with urgent, ordinary, drops := 0, transmission := some ⟨messageOf body, 1⟩ }
      pool := { s.pool with sentBegin := sent } }, 0xA5) := by
  unfold State.offerByte
  simp only [hh, Bool.false_eq_true, if_false, show s.mayBegin = true from State.mayBegin_iff.2 ⟨ht, hh⟩, Bool.and_true,
    if_true, State.beginReport_of_chooses h]
  rfl

theorem State.chooses_congr {s t : State} (hsender : t.sender = s.sender)
    (hqueue : t.pool.queue.length = s.pool.queue.length) (hsent : t.pool.sentBegin = s.pool.sentBegin)
    {body : List Byte} {urgent ordinary : List Notice} {sent : Bool} (h : s.chooses body urgent ordinary sent) :
    t.chooses body urgent ordinary sent := by
  unfold State.chooses at h ⊢
  rwa [hsender, hqueue, hsent]

/-- The service byte of an outbound frame (R16, R158). -/
theorem Work.service_of_mapped {s : State} {w : Work} (hw : (Work.start s).SameArrival w) {l p : Nat} (hl : l < 4)
    (h : s.map l = some p) {b : Byte} (ho : w.offered = some b) :
    (w.finish.tx.frames[p]?).map LaneFrame.service = some b := by
  rw [Work.getElem?_frames_finish w (laneMap_eq_some h).1, Work.outbound_of_mapped hw hl h, ho]
  rfl

theorem Work.service_of_idle {s : State} {w : Work} (hw : (Work.start s).SameArrival w) {p : Nat} (hp : p < 4)
    (ho : w.offered = some idleFill) : (w.finish.tx.frames[p]?).map LaneFrame.service = some 0xFF := by
  by_cases h : ∃ l < 4, s.map l = some p
  · obtain ⟨l, hl, h⟩ := h
    exact Work.service_of_mapped hw hl h ho
  · rw [Work.getElem?_frames_finish w hp, Work.outbound_of_unmapped hw fun l hl hm => h ⟨l, hl, hm⟩]
    rfl

/-! ### A choice brought forward -/

/-- Once the sender has offered its byte the other acts leave the report that is in transmission (log 15). -/
theorem Work.standing_of_offered {w : Work} {b : Byte} (ho : w.offered = some b) : w.standing.offered = some b ∧
    w.standing.s.sender.transmission = w.s.sender.transmission ∧
    w.standing.s.pool.sentBegin = w.s.pool.sentBegin := by
  have hmarks := w.marks_timed.trans (Work.marks_captures _)
  have hparse := (Work.offered_parse w.turns.reads.waits.captures).1.trans (hmarks.offered.trans ho)
  have hstanding : w.standing = w.turns.reads.waits.captures.parse := Work.offer_of_offered hparse
  obtain ⟨orders, g, hp⟩ := w.turns.reads.waits.captures.parse_s
  obtain ⟨store, caps, hc⟩ := w.turns.reads.waits.captures_s
  have hback : w.turns.reads.s.backdrop = w.qualify.s.backdrop := w.turns.backdrop_reads.trans w.backdrop_turns
  have hqualify : w.qualify.s.sender = w.s.sender ∧ w.qualify.s.pool = w.s.pool := by
    unfold Work.qualify; split <;> exact ⟨rfl, rfl⟩
  have htrans : w.turns.reads.s.sender.transmission = w.s.sender.transmission :=
    (State.transmission_of_backdrop hback).trans (congrArg ReportSender.transmission hqualify.1)
  have hsent : w.turns.reads.s.pool.sentBegin = w.s.pool.sentBegin :=
    (State.sentBegin_of_backdrop hback).trans (congrArg HeadPool.sentBegin hqualify.2)
  rw [hstanding]
  refine ⟨hparse, ?_, ?_⟩
  · rw [hp, ReportSender.garbled_transmission, hc, ← htrans, Work.waits_s, State.countWaits_sender]
  · rw [hp, hc, ← hsent, Work.waits_s, State.countWaits_sentBegin]

/-! ### The sender and the parser in the standing order -/

/-- The work of a frame event up to the channels' (R133, R134). -/
def State.recorded (s : State) : Work := s.timed.captures

theorem Work.standing_start (s : State) : (Work.start s).standing = s.recorded.parse.offer := rfl

theorem State.arrival_recorded (s : State) : (Work.start s).SameArrival s.recorded := by
  unfold State.recorded
  exact s.arrival_timed.trans (Work.arrival_captures _)

theorem State.marks_recorded (s : State) : s.recorded.parsed = false ∧ s.recorded.parse.offered = none ∧
    s.recorded.parse.restarted = false := by
  have hmarks : (Work.start s).SameMarks s.recorded := by
    unfold State.recorded State.timed
    exact (Work.marks_timed _).trans (Work.marks_captures _)
  obtain ⟨ho, hr⟩ := s.recorded.offered_parse
  have hstart : (Work.start s).parsed = false ∧ (Work.start s).offered = none ∧ (Work.start s).restarted = false :=
    ⟨rfl, rfl, rfl⟩
  rw [ho, hr, hmarks.parsed, hmarks.offered, hmarks.restarted]
  exact hstart

section
variable {s : State} (hs : s.inStore)
include hs

/-- Behind the channels' work orders and sender are those behind the contexts' turns. -/
theorem State.recorded_fields : s.recorded.s.orders = s.orders ∧ s.recorded.s.sender = (s.upTo 128).sender ∧
    s.recorded.s.pool.queue.length = (s.upTo 128).pool.queue.length ∧
    s.recorded.s.pool.sentBegin = s.pool.sentBegin := by
  obtain ⟨store, caps, hc⟩ := s.timed.captures_s
  rw [State.recorded, hc]
  dsimp only
  exact ⟨State.timed_orders hs, State.timed_sender hs, State.timed_queue_length hs, State.timed_sentBegin hs⟩

/-- Whatever the parser makes of its byte, the report in transmission and the hold of a restart stay. -/
theorem State.parsed_transmission : s.recorded.parse.s.sender.transmission = s.sender.transmission ∧
    s.recorded.parse.s.sender.hold = s.sender.hold := by
  obtain ⟨orders, g, hp⟩ := s.recorded.parse_s
  obtain ⟨-, hsender, -, -⟩ := State.recorded_fields hs
  rw [hp, hsender, ReportSender.garbled_transmission, ReportSender.garbled_hold]
  exact ⟨s.transmission_upTo 128, s.hold_upTo 128⟩

omit hs in
theorem State.control_recorded : s.recorded.base.control = s.control := by
  rw [s.arrival_recorded.base]
  exact s.control_arriveFrame

omit hs in
theorem State.parsed_of_unmapped (hc : s.control = none) : s.recorded.parse.s = s.recorded.s :=
  Work.parse_of_unmapped (State.control_recorded.trans hc)

omit hs in
theorem State.parsed_of_mapped {l p : Nat} {x : Lane} {held : Held} (hc : s.control = some l) (hmap : s.map l = some p)
    (hx : s.lane p = some x) (hheld : contributes x held) :
    s.recorded.parse.s = s.recorded.s.parseByte held.frame.service held.suspect :=
  Work.parse_of_frame s.marks_recorded.1 (State.control_recorded.trans hc)
    (Work.frameOf_arrival s.arrival_recorded hmap hx hheld)

/-- The sender chooses, behind the contexts' turns and the parser's byte, as the state behind these would (R156). -/
theorem State.parsed_like {l p : Nat} {x : Lane} {held : Held} (hc : s.control = some l) (hmap : s.map l = some p)
    (hx : s.lane p = some x) (hheld : contributes x held) :
    s.recorded.parse.s.orders = (s.parseByte held.frame.service held.suspect).orders ∧
    s.recorded.parse.s.sender = ((s.upTo 128).parseByte held.frame.service held.suspect).sender ∧
    s.recorded.parse.s.pool.queue.length =
      ((s.upTo 128).parseByte held.frame.service held.suspect).pool.queue.length ∧
    s.recorded.parse.s.pool.sentBegin = ((s.upTo 128).parseByte held.frame.service held.suspect).pool.sentBegin := by
  obtain ⟨horders, hsender, hqueue, hsent⟩ := State.recorded_fields hs
  have hupOrders := s.orders_upTo 128
  have hupSent := s.sentBegin_upTo 128
  rw [State.parsed_of_mapped hc hmap hx hheld]
  generalize s.recorded.s = v at horders hsender hqueue hsent
  generalize s.upTo 128 = u at hsender hqueue hupOrders hupSent
  simp only [State.parseByte_eq, horders, hsender, hupOrders, hupSent, hqueue, hsent, and_self]

end

theorem State.mapped_of_control {s : State} {l : Nat} (h : s.control = some l) : s.anyMapped = true := by
  rw [State.anyMapped, h]; rfl

theorem Work.offer_of_offerByte {w : Work} (ho : w.offered = none) (hr : w.restarted = false) {u : State} {b : Byte}
    (h : w.s.offerByte w.base.anyMapped = (u, b)) : w.offer.s = u ∧ w.offer.offered = some b := by
  rw [Work.offer_eq ho hr, h]
  exact ⟨rfl, rfl⟩

/-- The state and the byte of the sender's act are those behind the frame event. -/
theorem State.sent_of_offerByte {s u : State} {b : Byte} (h : s.recorded.parse.s.offerByte s.anyMapped = (u, b)) :
    (Work.start s).standing.s = u ∧ (Work.start s).standing.offered = some b := by
  obtain ⟨-, ho, hr⟩ := s.marks_recorded
  have hmapped : s.recorded.parse.base.anyMapped = s.anyMapped := by
    rw [s.recorded.arrival_parse.base, State.anyMapped, State.control_recorded, State.anyMapped]
  rw [Work.standing_start]
  exact Work.offer_of_offerByte ho hr (by rw [hmapped, h])

theorem Work.act_offerByte (w : Work) : w.act .offerByte = w.offer := rfl

theorem Work.finish_sender (w : Work) : w.finish.sender = w.s.sender := rfl
theorem Work.finish_orders (w : Work) : w.finish.orders = w.s.orders := rfl
theorem Work.finish_pool (w : Work) : w.finish.pool = w.s.pool := rfl
theorem Work.finish_su (w : Work) : w.finish.su = w.s.su := rfl
theorem Work.finish_capture (w : Work) (c : Nat) : w.finish.capture c = w.s.capture c := rfl

/-- Behind the parser's act only the sender and the SHORTAGE notice last sent change. -/
theorem State.standing_recorded (s : State) : (Work.start s).standing.s.orders = s.recorded.parse.s.orders ∧
    (Work.start s).standing.s.su = s.recorded.s.su ∧ (Work.start s).standing.s.caps = s.recorded.s.caps := by
  obtain ⟨orders, g, hp⟩ := s.recorded.parse_s
  obtain ⟨sender, sent, ho⟩ := s.recorded.parse.offer_s
  rw [Work.standing_start, ho, hp]
  dsimp only
  exact ⟨rfl, rfl, rfl⟩

/-! ### The channels in the standing order -/

theorem Work.Sound.capture {w : Work} (h : w.Sound) (c : Nat) : (w.capture c).Sound :=
  ⟨keptInFrame_workInStore.capture w c h.1, h.bad_capture c⟩

/-- The inbound byte of a slot of a mapped lane (R13). -/
theorem Work.inbound_slot {s : State} {w : Work} (hw : (Work.start s).SameArrival w) {k p : Nat} {x : Lane} {held : Held}
    (hmap : s.map (k / 32) = some p) (hx : s.lane p = some x) (hheld : contributes x held) :
    w.inbound k = some (held.frame.slots.getD (k % 32) 0x00, held.suspect) := by
  have h := Work.inbound_arrival hw hmap hx hheld (Nat.mod_lt k (by omega))
  rwa [Nat.div_add_mod] at h

section
variable {s : State} (hs : s.inStore)
include hs

/-- The channels' work: each finds its record of the arrival, its byte, and the store as the arrival or the other left it. -/
theorem State.recorded_channel {c : Nat} (hc : c < 2) {y : Capture} (hy : s.capture c = some y) {b : Byte}
    {suspect : Bool} (hin : ∀ w : Work, (Work.start s).SameArrival w → w.inbound y.slot = some (b, suspect)) :
    s.recorded.s.capture c = some (Capture.hear { y with todo := true } b suspect) ∧
    (s.storeLaw → (∀ d < 2, ∀ z, d ≠ c → s.capture d = some z → z.start + z.written ≠ y.start + y.written) →
      Capture.writes y b suspect = true →
      storeRead s.recorded.s.su.store (y.start + y.written) = capturedByte b suspect) := by
  have hcapture := State.timed_capture hs
  have hsound := State.timed_sound hs
  have harrival := s.arrival_timed
  have hlaw : s.storeLaw → s.timed.s.storeLaw := fun h => by
    unfold State.storeLaw
    rwa [State.timed_su hs]
  unfold State.recorded
  generalize s.timed = w at hcapture hsound harrival hlaw
  have hrecord : w.s.capture c = some { y with todo := true } := by rw [hcapture, hy]; rfl
  obtain rfl | rfl : c = 0 ∨ c = 1 := by omega
  · have hwork := Work.capture_of_channel hsound hrecord rfl (hin w harrival)
    refine ⟨?_, fun h hother hwrites => ?_⟩
    · rw [Work.captures, Work.capture_other _ (by omega), hwork]
      exact State.capture_workCapture (State.lt_of_capture hrecord) _ b suspect
    · rw [Work.captures, Work.store_capture_of_ne _ fun x hx => ?_]
      · exact Work.store_capture_own (x := { y with todo := true }) hsound (hlaw h) hrecord rfl (hin w harrival) hwrites
      · rw [Work.capture_other _ (by omega), hcapture] at hx
        obtain ⟨z, hz, rfl⟩ := Option.map_eq_some_iff.1 hx
        exact hother 1 (by omega) z (by omega) hz
  · have hrecord' : (w.capture 0).s.capture 1 = some { y with todo := true } := by
      rw [Work.capture_other _ (by omega), hrecord]
    have hin' := hin _ (harrival.trans (w.arrival_capture 0))
    have hwork := Work.capture_of_channel (hsound.capture 0) hrecord' rfl hin'
    refine ⟨?_, fun h _ hwrites => ?_⟩
    · rw [Work.captures, hwork]
      exact State.capture_workCapture (State.lt_of_capture hrecord') _ b suspect
    · exact Work.store_capture_own (x := { y with todo := true }) (hsound.capture 0)
        (kept_storeLaw.capture w 0 (hlaw h)) hrecord' rfl hin' hwrites

/-- No address of the store is written that is not the place of an active channel (R134). -/
theorem State.recorded_store {a : Nat} (ha : ∀ c < 2, ∀ y, s.capture c = some y → y.start + y.written ≠ a) :
    storeRead s.recorded.s.su.store a = storeRead s.su.store a := by
  have hcapture := State.timed_capture hs
  have hne : ∀ c < 2, ∀ x, s.timed.s.capture c = some x → x.start + x.written ≠ a := fun c hc x hx => by
    rw [hcapture] at hx
    obtain ⟨z, hz, rfl⟩ := Option.map_eq_some_iff.1 hx
    exact ha c hc z hz
  rw [← State.timed_su hs]
  unfold State.recorded
  generalize s.timed = w at hne
  rw [Work.captures, Work.store_capture_of_ne _ fun x hx => ?_, Work.store_capture_of_ne _ (hne 0 (by omega))]
  rw [Work.capture_other _ (by omega)] at hx
  exact hne 1 (by omega) x hx

end

/-- A WAITING_VOICE channel that hears no loud byte counts its timer (R133). -/
theorem Capture.hear_of_waiting {y : Capture} {b : Byte} {suspect : Bool} {timer : Nat}
    (hph : y.phase = .waitingVoice timer) (hl : y.loud b suspect = false) :
    Capture.hear { y with todo := true } b suspect = { y with phase := .waitingVoice (timer - 1), todo := false } := by
  have hl' : ¬ Capture.loud { y with todo := true } b suspect = true := by
    rw [show Capture.loud { y with todo := true } b suspect = y.loud b suspect from rfl, hl]
    simp
  simp only [Capture.hear, hph]
  exact if_neg hl'

theorem Capture.hear_of_writes {y : Capture} {b : Byte} {suspect : Bool} (h : y.writes b suspect = true) :
    Capture.hear { y with todo := true } b suspect = { y.classify b suspect with todo := false } := by
  unfold Capture.writes at h
  cases hph : y.phase with
  | recording => rw [Capture.hear]; rfl
  | waitingVoice timer =>
    rw [hph] at h
    have hl : Capture.loud { y with todo := true } b suspect = true := h
    rw [Capture.hear]
    exact if_pos hl

theorem Capture.writes_iff {y : Capture} {b : Byte} {suspect : Bool} :
    y.writes b suspect = true ↔ y.phase = .recording ∨ y.loud b suspect = true := by
  unfold Capture.writes
  cases y.phase <;> simp

section
variable {s : State} (hs : s.inStore)
include hs

/-- The byte of a report in transmission goes out, or idle fill at the first frame event after a restart (R158, R159). -/
theorem State.sender_in_transmission :
    (∀ x b, s.sender.hold = false → s.sender.transmission = some x → x.bytes[x.position]? = some b →
      (Work.start s).standing.s.sender.transmission = some { x with position := x.position + 1 } ∧
      (Work.start s).standing.offered = some b) ∧
    (s.sender.hold = true → (Work.start s).standing.s.sender.hold = false ∧
      (Work.start s).standing.s.sender.transmission = s.sender.transmission ∧
      (Work.start s).standing.offered = some idleFill) := by
  obtain ⟨htrans, hhold⟩ := State.parsed_transmission hs
  refine ⟨fun x b hh hx hb => ?_, fun hh => ?_⟩
  · obtain ⟨hstate, hbyte⟩ := State.sent_of_offerByte (s := s)
      (State.offerByte_of_transmission (htrans.trans hx) (hhold.trans hh) _)
    rw [hstate, hbyte, List.getD_eq_getElem?_getD, hb]
    generalize s.recorded.parse.s = u
    exact ⟨rfl, rfl⟩
  · obtain ⟨hstate, hbyte⟩ := State.sent_of_offerByte (s := s) (State.offerByte_of_hold (hhold.trans hh) _)
    rw [hstate, hbyte]
    generalize s.recorded.parse.s = u at htrans
    exact ⟨rfl, htrans, rfl⟩

variable (hh : s.sender.hold = false) (ht : s.sender.transmission = none)
include hh ht

theorem State.sender_of_unmapped (hc : s.control = none) :
    (Work.start s).standing.s.sender = (s.upTo 128).sender := by
  obtain ⟨htrans, hhold⟩ := State.parsed_transmission hs
  have hunmapped : s.anyMapped = false := by rw [State.anyMapped, hc]; rfl
  have hbyte := State.offerByte_of_unmapped (hhold.trans hh) (htrans.trans ht)
  have hstate := (State.sent_of_offerByte (s := s) (by rw [hunmapped, hbyte])).1
  rw [hstate, State.parsed_of_unmapped hc]
  exact (State.recorded_fields hs).2.1

/-- The choice of a report behind the contexts' turns and the parser's byte (R156, R157; log 15). -/
theorem State.sender_chooses {l p : Nat} {x : Lane} {held : Held} (hc : s.control = some l) (hmap : s.map l = some p)
    (hx : s.lane p = some x) (hheld : contributes x held) :
    let v := (s.upTo 128).parseByte held.frame.service held.suspect
    (v.sender.urgent = [] → v.sender.ordinary = [] → (Work.start s).standing.s.sender = v.sender ∧
      (Work.start s).standing.offered = some idleFill) ∧
    ∀ body urgent ordinary sent, v.chooses body urgent ordinary sent →
      (Work.start s).standing.s.sender = { v.sender with
        urgent, ordinary, drops := 0, transmission := some ⟨messageOf body, 1⟩ } ∧
      (Work.start s).standing.s.pool.sentBegin = sent ∧ (Work.start s).standing.offered = some 0xA5 := by
  intro v
  obtain ⟨htrans, hhold⟩ := State.parsed_transmission hs
  obtain ⟨-, hsender, hqueue, hsent⟩ := State.parsed_like hs hc hmap hx hheld
  have hmapped := State.mapped_of_control hc
  have hv : v = (s.upTo 128).parseByte held.frame.service held.suspect := rfl
  rw [← hv] at hsender hqueue hsent
  clear_value v
  refine ⟨fun hu ho => ?_, fun body urgent ordinary sent hchoice => ?_⟩
  · obtain ⟨hstate, hbyte⟩ := State.sent_of_offerByte (s := s) (State.offerByte_of_empty (hhold.trans hh)
      (htrans.trans ht) (by rw [hsender, hu]) (by rw [hsender, ho]) _)
    exact ⟨by rw [hstate, hsender], hbyte⟩
  · have hoffer := State.offerByte_of_chooses (hhold.trans hh) (htrans.trans ht)
      (State.chooses_congr hsender hqueue hsent hchoice)
    obtain ⟨hstate, hbyte⟩ := State.sent_of_offerByte (s := s) (by rw [hmapped, hoffer])
    rw [hstate, hbyte, ← hsender]
    generalize s.recorded.parse.s = u
    exact ⟨rfl, rfl, rfl⟩

omit hs

/-- The choice of a report brought forward, in the state at the arrival (R156, R157; log 15). -/
theorem State.sender_chooses_first (hc : s.control ≠ none) :
    (s.sender.urgent = [] → s.sender.ordinary = [] → (Work.start s).offer.standing.s.sender.transmission = none ∧
      (Work.start s).offer.standing.offered = some idleFill) ∧
    ∀ body urgent ordinary sent, s.chooses body urgent ordinary sent →
      (Work.start s).offer.standing.s.sender.transmission = some ⟨messageOf body, 1⟩ ∧
      (Work.start s).offer.standing.s.pool.sentBegin = sent ∧ (Work.start s).offer.standing.offered = some 0xA5 := by
  have hmapped : (Work.start s).base.anyMapped = true := by
    rw [State.anyMapped_iff]
    exact fun h => hc (s.control_arriveFrame.symm.trans h)
  have hfirst : ∀ {u b}, s.arriveFrame.offerByte true = (u, b) →
      (Work.start s).offer.s = u ∧ (Work.start s).offer.offered = some b := fun h =>
    Work.offer_of_offerByte rfl rfl (by rw [hmapped]; exact h)
  have hqueue : s.arriveFrame.pool.queue.length = s.pool.queue.length := List.length_map ..
  refine ⟨fun hu ho => ?_, fun body urgent ordinary sent hchoice => ?_⟩
  · obtain ⟨hstate, hbyte⟩ := hfirst (State.offerByte_of_empty (s := s.arriveFrame) hh ht hu ho true)
    obtain ⟨hoffered, htrans, -⟩ := Work.standing_of_offered hbyte
    exact ⟨by rw [htrans, hstate]; exact ht, hoffered⟩
  · obtain ⟨hstate, hbyte⟩ := hfirst (State.offerByte_of_chooses (s := s.arriveFrame) hh ht
      (State.chooses_congr (s := s) (t := s.arriveFrame) rfl hqueue rfl hchoice))
    obtain ⟨hoffered, htrans, hsent⟩ := Work.standing_of_offered hbyte
    rw [htrans, hsent, hoffered, hstate]
    exact ⟨rfl, rfl, rfl⟩

end

/-- The Lane Receiver behind a frame event (R12, R17). -/
theorem State.receiver_standing (s : State) {holds : Bool}
    (h : holds = true ↔ ∀ l < 4, s.rx.restartSet.getLsbD l = true → ∃ p x held, s.map l = some p ∧ s.lane p = some x ∧
      contributes x held ∧ held.suspect = false ∧ held.frame.service = 0x5A) :
    (Work.start s).standing.finish.rx = { s.rx with
      lanes := s.rx.lanes.map Lane.take, clockDue := false
      qualCount := if s.rx.armed && holds then s.rx.qualCount + 1 else 0
      armed := s.rx.armed || !holds
      restarting := s.rx.armed && holds && decide (1599 ≤ s.rx.qualCount) } := by
  rw [Work.finish_rx, Work.standing_rx]
  exact Work.rx_qualify_start s (Bool.eq_iff_iff.2 ((Work.restartCondition_iff s).trans h.symm))

/-- Settles O55: the receiver, the parser, the sender and the channels, each in its act. -/
theorem frameEventReceives : Obligations.FrameEventReceives := by
  intro s hq hdue hs
  have hw := Work.arrival_standing (Work.start s)
  have hrx := s.receiver_standing (Work.restartCondition_iff s)
  obtain ⟨horders, hsu, hcaps⟩ := s.standing_recorded
  obtain ⟨hnext, hheld⟩ := State.sender_in_transmission hs
  have hservice : ∀ b, (Work.start s).standing.offered = some b → ∀ p < 4, ∀ l < 4, s.map l = some p →
      ((Work.start s).standing.finish.tx.frames[p]?).map LaneFrame.service = some b :=
    fun b ho p _ l hl hmap => Work.service_of_mapped hw hl hmap ho
  refine ⟨_, exec_frameEvent_nil hq hdue hs, ?_, by rw [hrx], by rw [hrx], by rw [hrx], by rw [hrx], fun holds h => ?_,
    fun l p x held hc hmap hx hcon => ?_, fun hc => ?_, fun x b hh hx hb => ?_, fun hh => ?_,
    fun hh ht => ⟨fun hc => ?_, fun l p x held hc hmap hx hcon => ?_, fun hc => ?_⟩,
    fun c hc y p x held hy hmap hx hcon => ?_, fun a ha => ?_⟩
  · rw [hrx]
    exact List.map_congr_left fun x _ => x.take_eq
  · rw [s.receiver_standing h]
    exact ⟨rfl, rfl, rfl⟩
  · rw [Work.finish_orders, horders]
    exact (State.parsed_like hs hc hmap hx hcon).1
  · rw [Work.finish_orders, horders, State.parsed_of_unmapped hc]
    exact (State.recorded_fields hs).1
  · obtain ⟨htrans, hbyte⟩ := hnext x b hh hx hb
    rw [Work.finish_sender]
    exact ⟨htrans, hservice b hbyte⟩
  · obtain ⟨hhold, htrans, hbyte⟩ := hheld hh
    rw [Work.finish_sender]
    exact ⟨hhold, htrans, fun p hp => Work.service_of_idle hw hp hbyte⟩
  · rw [Work.finish_sender]
    exact State.sender_of_unmapped hs hh ht hc
  · obtain ⟨hnone, hsome⟩ := State.sender_chooses hs hh ht hc hmap hx hcon
    refine ⟨fun hu ho => ?_, fun body urgent ordinary sent hchoice => ?_⟩
    · obtain ⟨hsender, hbyte⟩ := hnone hu ho
      rw [Work.finish_sender]
      exact ⟨hsender, hservice _ hbyte⟩
    · obtain ⟨hsender, hsent, hbyte⟩ := hsome body urgent ordinary sent hchoice
      rw [Work.finish_sender, Work.finish_pool]
      exact ⟨hsender, hsent, hservice _ hbyte⟩
  · have hexec : exec (.frameEvent [.offerByte]) s = .next (Work.start s).offer.standing.finish := by
      rw [exec_frameEvent_of_due hq hdue hs, List.cons_append, List.nil_append, List.foldl_cons, Work.act_offerByte,
        Work.foldl_standingActs]
    have hw' := (Work.arrival_offer (Work.start s)).trans (Work.arrival_standing _)
    obtain ⟨hnone, hsome⟩ := State.sender_chooses_first hh ht hc
    refine ⟨_, hexec, fun hu ho => ?_, fun body urgent ordinary sent hchoice => ?_⟩
    · obtain ⟨htrans, hbyte⟩ := hnone hu ho
      rw [Work.finish_sender]
      exact ⟨htrans, fun p _ l hl hmap => Work.service_of_mapped hw' hl hmap hbyte⟩
    · obtain ⟨htrans, hsent, hbyte⟩ := hsome body urgent ordinary sent hchoice
      rw [Work.finish_sender, Work.finish_pool]
      exact ⟨htrans, hsent, fun p _ l hl hmap => Work.service_of_mapped hw' hl hmap hbyte⟩
  · intro b loud
    obtain ⟨hrecord, hwritten⟩ := State.recorded_channel hs hc hy fun w hw => Work.inbound_slot hw hmap hx hcon
    have hcapture : (Work.start s).standing.finish.capture c = s.recorded.s.capture c := by
      rw [Work.finish_capture, State.capture, hcaps, State.capture]
    rw [hcapture, hrecord]
    refine ⟨fun timer hph hl => by rw [Capture.hear_of_waiting hph hl], fun hwrites => ?_⟩
    have hwrites' : y.writes b held.suspect = true := Capture.writes_iff.2 hwrites
    refine ⟨by rw [Capture.hear_of_writes hwrites']; rfl, fun hlaw hother => ?_⟩
    rw [Work.finish_su, hsu]
    exact hwritten hlaw hother hwrites'
  · rw [Work.finish_su, hsu]
    exact State.recorded_store hs ha

end Sys2Proof.Machine

/-! PROOF. The passing on of lane losses to the units, and the LANE PLAN with its lowered width (R6 to R11, R14, R15, R88, R138). -/

namespace Sys2Proof.Machine

/-! ### What a loss leaves as it was -/

/-- The state without what the loss of a lane changes: contexts, heads, wait queue, channels and the queues of the Report
Sender. -/
def State.outside (s : State) : State := { s.backdrop with caps := [] }

/-- The programmes of the logical lanes `ps` end and the captures of the logical lanes `cs` are aborted between `s` and
`t`, and nothing else (R14, R88, R138). -/
structure State.Lost (ps cs : List Nat) (s t : State) : Prop where
  outside : t.outside = s.outside
  ended : ∀ k < 128, k / 32 ∈ ps → t.ctx k = none
  stays : ∀ k, k / 32 ∉ ps → (t.ctx k).isSome = (s.ctx k).isSome
  descends : s.Descends t
  captures : ∀ c < 2, t.capture c = (s.capture c).filter fun y => decide (y.slot / 32 ∉ cs)
  still : s.pool.queue = [] → t.pool.queue = [] ∧ ∀ k, k / 32 ∉ ps → t.ctx k = s.ctx k

/-- A loss leaves receiver, order receiver, transmitter, tables, store unit, the report in transmission and the queue of
commands. -/
theorem State.Lost.frame {ps cs : List Nat} {s t : State} (h : State.Lost ps cs s t) :
    t.rx = s.rx ∧ t.orders = s.orders ∧ t.tx = s.tx ∧ t.slots = s.slots ∧ t.bank = s.bank ∧
      t.seq.templates = s.seq.templates ∧ t.su = s.su ∧ t.sender.transmission = s.sender.transmission ∧
      t.pending = s.pending := by
  have keeps : ∀ {α : Type} (f : State → α), (∀ u : State, f u.outside = f u) → f t = f s := fun f hf => by
    rw [← hf t, h.outside, hf s]
  exact ⟨keeps _ fun _ => rfl, keeps _ fun _ => rfl, keeps _ fun _ => rfl, keeps _ fun _ => rfl, keeps _ fun _ => rfl,
    keeps (fun u => u.seq.templates) fun _ => rfl, keeps _ fun _ => rfl, keeps (fun u => u.sender.transmission) fun _ => rfl,
    keeps _ fun _ => rfl⟩

theorem State.Descends.trans {s u t : State} (h : s.Descends u) (g : u.Descends t) : s.Descends t := fun j z hz => by
  obtain ⟨y, hy, hyz⟩ := g j z hz
  obtain ⟨x, hx, hxy⟩ := h j y hy
  exact ⟨x, hx, hxy.trans hyz⟩

theorem State.Descends.eq_none {s t : State} (h : s.Descends t) {k : Nat} (hk : s.ctx k = none) : t.ctx k = none := by
  by_contra hne
  obtain ⟨y, hy⟩ := Option.ne_none_iff_exists'.1 hne
  obtain ⟨x, hx, -⟩ := h k y hy
  rw [hk] at hx
  cases hx

theorem State.Lost.trans {ps cs ps' cs' : List Nat} {s u t : State} (h : State.Lost ps cs s u)
    (g : State.Lost ps' cs' u t) : State.Lost (ps ++ ps') (cs ++ cs') s t where
  outside := g.outside.trans h.outside
  ended k hk hp := by
    rcases List.mem_append.1 hp with hp | hp
    · exact g.descends.eq_none (h.ended k hk hp)
    · exact g.ended k hk hp
  stays k hk := by
    rw [List.mem_append, not_or] at hk
    exact (g.stays k hk.2).trans (h.stays k hk.1)
  descends := h.descends.trans g.descends
  captures c hc := by
    rw [g.captures c hc, h.captures c hc]
    cases s.capture c with
    | none => rfl
    | some y => by_cases hy : y.slot / 32 ∈ cs <;> by_cases hy' : y.slot / 32 ∈ cs' <;> simp [Option.filter, hy, hy']
  still hq := by
    obtain ⟨hu, hctx⟩ := h.still hq
    obtain ⟨ht, hctx'⟩ := g.still hu
    refine ⟨ht, fun k hk => ?_⟩
    rw [List.mem_append, not_or] at hk
    exact (hctx' k hk.2).trans (hctx k hk.1)

theorem Option.filter_notMem_nil {α : Type} (o : Option α) (f : α → Nat) : o.filter (fun y => decide (f y ∉ [])) = o := by
  cases o <;> simp [Option.filter]

/-- Where contexts, wait queue and channels are as before nothing is lost. -/
theorem State.lost_of_eq {s t : State} (ho : t.outside = s.outside) (hseq : t.seq = s.seq) (hpool : t.pool = s.pool)
    (hcaps : t.caps = s.caps) : State.Lost [] [] s t where
  outside := ho
  ended _ _ hp := absurd hp List.not_mem_nil
  stays k _ := by rw [State.ctx_congr (congrArg Sequencer.contexts hseq)]
  descends k y hy := ⟨y, by rwa [State.ctx_congr (congrArg Sequencer.contexts hseq)] at hy, .refl y⟩
  captures c _ := by rw [Option.filter_notMem_nil, State.capture, hcaps, State.capture]
  still hq := ⟨by rw [hpool, hq], fun k _ => State.ctx_congr (congrArg Sequencer.contexts hseq) k⟩

/-! ### The programmes of a lane -/

theorem State.restHead_seq (s : State) (h : Nat) : (s.restHead h).seq = s.seq := by
  unfold State.restHead; (repeat' split) <;> rfl

/-- With no waiter the heads left are offered to nobody (R119). -/
theorem State.settleHeads_still {s : State} (hq : s.pool.queue = []) (l : List Nat) :
    (s.settleHeads l).pool.queue = [] ∧ (s.settleHeads l).seq = s.seq := by
  unfold State.settleHeads
  refine foldl_inv (fun t : State => t.pool.queue = [] ∧ t.seq = s.seq) _ (fun t h ht => ?_) _ _ ?_
  · rw [if_pos (by rw [ht.1]; rfl)]
    exact ht
  · exact ⟨(foldl_keeps (fun t : State => t.pool.queue) State.restHead (fun t h => t.restHead_queue h) _ s).trans hq,
      foldl_keeps State.seq State.restHead (fun t h => t.restHead_seq h) _ s⟩

theorem State.endProgrammes_still {s : State} (hq : s.pool.queue = []) (l : List Nat) (cause : EndCause) :
    (s.endProgrammes l cause).pool.queue = [] ∧ ∀ k ∉ l, (s.endProgrammes l cause).ctx k = s.ctx k := by
  have hset : (s.freed l).setQueue ((s.freed l).pool.queue.filter fun w => !l.contains w.slot) = s.freed l :=
    State.setQueue_self (by rw [State.freed_pool, hq]; rfl)
  obtain ⟨hqueue, hseq⟩ := State.settleHeads_still (s := s.freed l) (by rw [State.freed_pool, hq]) (s.headsOf l)
  have hleave : s.leavePool l = (s.freed l).settleHeads (s.headsOf l) := by rw [State.leavePool_eq, hset]
  rw [State.endProgrammes, State.queueAll_pool, hleave]
  refine ⟨hqueue, fun k hk => ?_⟩
  rw [State.ctx_congr (congrArg Sequencer.contexts ((State.queueAll_seq _ _).trans hseq)), State.ctx_freed, if_neg hk]

theorem State.mem_liveOnLane {s : State} {l k : Nat} :
    k ∈ s.liveOnLane l ↔ (k < 128 ∧ (s.ctx k).isSome = true) ∧ k / 32 = l := by
  rw [State.liveOnLane, List.mem_filter, State.liveSlots, List.mem_filter, List.mem_range, beq_iff_eq]
  rfl

/-- The Sequencer's part of a lane loss (R88). -/
theorem State.lost_loseProgrammes (s : State) (l : Nat) : State.Lost [l] [] s (s.loseProgrammes l) where
  outside := congrArg (fun u : State => { u with caps := [] }) (s.backdrop_endProgrammes ..)
  ended k hk hp := by
    by_cases hlive : (s.ctx k).isSome = true
    · exact State.endProgrammes_ended (State.mem_liveOnLane.2 ⟨⟨hk, hlive⟩, List.mem_singleton.1 hp⟩)
    · exact State.Descends.eq_none (s.descends_endProgrammes _ _) (by simpa using hlive)
  stays k hk := (State.endProgrammes_stays fun h => hk (List.mem_singleton.2 (State.mem_liveOnLane.1 h).2)).1
  descends := s.descends_endProgrammes _ _
  captures c _ := by
    rw [Option.filter_notMem_nil, State.capture, State.loseProgrammes,
      State.caps_of_backdrop (s.backdrop_endProgrammes ..), State.capture]
  still hq := by
    obtain ⟨hqueue, hctx⟩ := State.endProgrammes_still hq (s.liveOnLane l) .laneLost
    exact ⟨hqueue, fun k hk => hctx k fun h => hk (List.mem_singleton.2 (State.mem_liveOnLane.1 h).2)⟩

/-! ### The captures of a lane -/

/-- What the aborts of the channels `cs` leave (R138). -/
theorem State.abortCaptures_eq (cause : CaptureCause) : ∀ {cs : List Nat}, cs.Nodup → ∀ s : State,
    cs.foldl (fun t c => t.abortCapture cause c) s = { s with
      caps := cs.foldl (fun caps c => caps.set c none) s.caps
      sender := (cs.flatMap fun c => (s.capture c).toList.map fun x => captureNotice c x cause x.written).foldl
        ReportSender.note s.sender }
  | [], _, s => rfl
  | c :: cs, hn, s => by
    obtain ⟨hc, hcs⟩ := List.nodup_cons.1 hn
    have hothers : ∀ d ∈ cs, (s.abortCapture cause c).capture d = s.capture d := fun d hd => by
      have hne : c ≠ d := fun e => hc (e ▸ hd)
      rw [State.abortCapture_eq]
      simp [State.capture, List.getD_eq_getElem?_getD, List.getElem?_set_ne hne]
    rw [List.foldl_cons, State.abortCaptures_eq cause hcs, List.foldl_cons, List.flatMap_cons, List.foldl_append,
      List.flatMap_congr fun d hd => by rw [hothers d hd], State.abortCapture_eq]
    cases s.capture c <;> rfl

theorem capture_of_cleared {caps : List (Option Capture)} (cs : List Nat) (c : Nat) :
    (cs.foldl (fun caps c => caps.set c none) caps).getD c none = if c ∈ cs then none else caps.getD c none := by
  induction cs generalizing caps with
  | nil => rfl
  | cons d cs ih =>
    rw [List.foldl_cons, ih]
    by_cases hc : c ∈ cs
    · simp [hc]
    · by_cases hd : c = d
      · subst hd
        by_cases hl : c < caps.length <;> simp [hc, List.getD_eq_getElem?_getD, hl]
      · simp [hc, hd, List.getD_eq_getElem?_getD, List.getElem?_set_ne (Ne.symm hd)]

/-- The channels whose source slot lies on logical lane `l`, in the loss order's order (R138; log 6). -/
def State.channelsOn (s : State) (o : LossOrder) (l : Nat) : List Nat :=
  (channelOrder o).filter fun c => (s.capture c).any fun x => laneOfSlot x.slot == l

theorem nodup_channelOrder (o : LossOrder) : (channelOrder o).Nodup := by
  unfold channelOrder; split <;> decide

theorem State.mem_channelsOn {s : State} {o : LossOrder} {l c : Nat} :
    c ∈ s.channelsOn o l ↔ c < 2 ∧ ∃ x, s.capture c = some x ∧ x.slot / 32 = l := by
  have horder : c ∈ channelOrder o ↔ c < 2 := by
    unfold channelOrder
    split <;> simp only [List.mem_cons, List.not_mem_nil, or_false] <;> omega
  rw [State.channelsOn, List.mem_filter, horder, Option.any_eq_true]
  simp only [beq_iff_eq, laneOfSlot]

theorem flatMap_filter_of_nil {α β : Type} {p : α → Bool} {f : α → List β} {l : List α}
    (h : ∀ a ∈ l, p a = false → f a = []) : (l.filter p).flatMap f = l.flatMap f := by
  induction l with
  | nil => rfl
  | cons a l ih =>
    have ih := ih fun b hb => h b (List.mem_cons_of_mem a hb)
    cases hp : p a with
    | true => rw [List.filter_cons_of_pos hp, List.flatMap_cons, ih, List.flatMap_cons]
    | false => rw [List.filter_cons_of_neg (by simp [hp]), ih, List.flatMap_cons, h a List.mem_cons_self hp]; rfl

theorem State.abortOnLane_eq (s : State) (o : LossOrder) (l : Nat) : s.abortOnLane o l = { s with
    caps := (s.channelsOn o l).foldl (fun caps c => caps.set c none) s.caps
    sender := (s.laneAborts o l).foldl ReportSender.note s.sender } := by
  have hnotices : ((s.channelsOn o l).flatMap fun c =>
      (s.capture c).toList.map fun x => captureNotice c x .laneLost x.written) = s.laneAborts o l := by
    rw [List.flatMap_congr (g := fun c => match s.capture c with
      | some x => if x.slot / 32 = l then [.captureEnd c x.phrase .laneLost x.written x.suspects] else []
      | none => []) fun c hc => ?_]
    · refine flatMap_filter_of_nil fun c _ hc => ?_
      cases hx : s.capture c with
      | none => rfl
      | some x =>
        rw [hx, Option.any_some, beq_eq_false_iff_ne] at hc
        exact if_neg hc
    · obtain ⟨-, x, hx, hl⟩ := State.mem_channelsOn.1 hc
      simp only [hx, hl, if_true]
      rfl
  rw [← hnotices]
  exact State.abortCaptures_eq .laneLost ((nodup_channelOrder o).filter _) s

/-- The channels' part of a lane loss (R138). -/
theorem State.lost_abortOnLane (s : State) (o : LossOrder) (l : Nat) : State.Lost [] [l] s (s.abortOnLane o l) where
  outside := by
    rw [State.abortOnLane_eq]
    have htrans := foldl_keeps ReportSender.transmission ReportSender.note (fun r n => r.note_transmission n)
      (s.laneAborts o l) s.sender
    have hhold := foldl_keeps ReportSender.hold ReportSender.note (fun r n => r.note_hold n) (s.laneAborts o l) s.sender
    simp only [State.outside, State.backdrop, htrans, hhold]
  ended _ _ hp := absurd hp List.not_mem_nil
  stays k _ := by
    rw [State.abortOnLane_eq]
    rfl
  descends k y hy := by
    rw [State.abortOnLane_eq] at hy
    exact ⟨y, hy, .refl y⟩
  captures c hc := by
    rw [State.abortOnLane_eq, State.capture, capture_of_cleared]
    by_cases hm : c ∈ s.channelsOn o l
    · obtain ⟨-, x, hx, hl⟩ := State.mem_channelsOn.1 hm
      simp [hm, hx, hl, Option.filter]
    · rw [if_neg hm]
      cases hx : s.capture c with
      | none => exact hx
      | some x =>
        have hl : x.slot / 32 ≠ l := fun hl => hm (State.mem_channelsOn.2 ⟨hc, x, hx, hl⟩)
        exact hx.trans (by simp [Option.filter, hl])
  still hq := by
    rw [State.abortOnLane_eq]
    exact ⟨hq, fun _ _ => rfl⟩

theorem State.lost_queueLane (s : State) (l p : Nat) (news : LaneNews) : State.Lost [] [] s (s.queueLane l p news) :=
  State.lost_of_eq rfl rfl rfl rfl

/-- The loss of a logical lane, in every order of passing it on (R14; log 6). -/
theorem State.lost_passOnLoss (s : State) (o : LossOrder) (l p : Nat) (news : LaneNews) :
    State.Lost [l] [l] s (s.passOnLoss o l p news) := by
  have hunits : ∀ u : State, State.Lost [l] [l] u
      (if o.capturesFirst then (u.abortOnLane o l).loseProgrammes l else (u.loseProgrammes l).abortOnLane o l) := fun u => by
    split
    · exact (u.lost_abortOnLane o l).trans (State.lost_loseProgrammes _ l)
    · exact (u.lost_loseProgrammes l).trans (State.lost_abortOnLane _ o l)
  unfold State.passOnLoss
  cases o.noticeFirst
  · exact (hunits s).trans (State.lost_queueLane _ l p news)
  · exact (s.lost_queueLane l p news).trans (hunits _)

/-! ### The notices of a loss -/

theorem State.mail_queueAll_congr {s t : State} (h : t.mail = s.mail) (ns : List Notice) :
    (t.queueAll ns).mail = (s.queueAll ns).mail := by
  obtain ⟨ho, hd⟩ := Prod.mk.inj h
  obtain ⟨ho', hd'⟩ := ReportSender.foldl_note_congr ns ho hd
  rw [State.mail, State.mail, State.queueAll_sender, State.queueAll_sender, ho', hd']

theorem filter_range_lane {l : Nat} (hl : l < 4) :
    (List.range 128).filter (fun k => laneOfSlot k == l) = (List.range 32).map fun n => 32 * l + n := by
  interval_cases l <;> decide

theorem State.liveOnLane_notices (s : State) {l : Nat} (hl : l < 4) :
    ((s.liveOnLane l).flatMap fun k => endNotice k .laneLost (s.ctx k)) = s.laneEnds l := by
  rw [State.liveOnLane, State.liveSlots, List.filter_comm, flatMap_filter_of_nil, filter_range_lane hl, List.flatMap_map]
  · rfl
  · intro k _ hk
    rw [Option.isSome_eq_false_iff, Option.isNone_iff_eq_none] at hk
    rw [hk]
    rfl

theorem State.mail_loseProgrammes (s : State) {l : Nat} (hl : l < 4) :
    (s.loseProgrammes l).mail = (s.queueAll (s.laneEnds l)).mail := by
  rw [State.loseProgrammes, State.endProgrammes, s.liveOnLane_notices hl]
  exact State.mail_queueAll_congr (s.mail_leavePool _) _

theorem State.mail_abortOnLane (s : State) (o : LossOrder) (l : Nat) :
    (s.abortOnLane o l).mail = (s.queueAll (s.laneAborts o l)).mail := by
  rw [State.abortOnLane_eq, State.mail, State.mail, State.queueAll_sender]

theorem State.laneEnds_congr {s t : State} (h : t.ctx = s.ctx) : t.laneEnds = s.laneEnds := by
  unfold State.laneEnds
  rw [h]

theorem State.laneAborts_congr {s t : State} (h : t.capture = s.capture) : t.laneAborts = s.laneAborts := by
  unfold State.laneAborts
  rw [h]

/-- The ordinary notices of a loss, in the loss order's order (R85, R138; log 6). -/
theorem State.mail_passOnLoss (s : State) (o : LossOrder) {l : Nat} (hl : l < 4) (p : Nat) (news : LaneNews) :
    (s.passOnLoss o l p news).mail = (s.queueAll (s.lossNotices o l)).mail := by
  have hunits : ∀ u : State, (if o.capturesFirst then (u.abortOnLane o l).loseProgrammes l
      else (u.loseProgrammes l).abortOnLane o l).mail = (u.queueAll (u.lossNotices o l)).mail := fun u => by
    unfold State.lossNotices
    split
    · have hends : (u.abortOnLane o l).laneEnds = u.laneEnds := State.laneEnds_congr (by rw [State.abortOnLane_eq]; rfl)
      rw [State.mail_loseProgrammes _ hl, hends, State.queueAll_append]
      exact State.mail_queueAll_congr (u.mail_abortOnLane o l) _
    · have haborts : (u.loseProgrammes l).laneAborts = u.laneAborts := State.laneAborts_congr (by
        funext c
        rw [State.capture, State.loseProgrammes, State.caps_of_backdrop (u.backdrop_endProgrammes ..), State.capture])
      rw [State.mail_abortOnLane, haborts, State.queueAll_append]
      exact State.mail_queueAll_congr (u.mail_loseProgrammes hl) _
  unfold State.passOnLoss
  cases o.noticeFirst
  · exact hunits s
  · exact (hunits (s.queueLane l p news)).trans
      (State.mail_queueAll_congr (s := s) (t := s.queueLane l p news) rfl (s.lossNotices o l))

/-- A notice that is no SHORTAGE notice stays in the urgent queue (R125). -/
theorem mem_queueNews {n : Notice} {u : List Notice} {old new : List Waiter} (h : n ∈ u) (hb : n ≠ .shortageBegin)
    (he : n ≠ .shortageEnd) : n ∈ queueNews u old new := by
  have hnoted : ∀ b, n ∈ shortageNoted u b := fun b => by
    by_cases hm : (if b then .shortageEnd else .shortageBegin : Notice) ∈ u
    · rw [shortageNoted_of_mem hm]
      refine List.mem_filter.2 ⟨h, bne_iff_ne.2 ?_⟩
      cases b
      · exact hb
      · exact he
    · rw [shortageNoted_of_notMem hm]
      exact List.mem_append_left _ h
  cases old <;> cases new
  · exact h
  · exact hnoted true
  · exact hnoted false
  · exact h

theorem keptByPool_laneNotice (l p : Nat) (news : LaneNews) : KeptByPool fun s => .lane l p news ∈ s.sender.urgent where
  setQueue s q _ h := by
    rw [State.setQueue_sender]
    exact mem_queueNews h (by simp) (by simp)
  queueOrdinary s n h := by
    rw [State.queueOrdinary_sender, ReportSender.note_urgent]
    exact h

theorem mem_placeLane_self (l p : Nat) (news : LaneNews) (u : List Notice) : .lane l p news ∈ placeLane u l p news := by
  fun_induction placeLane u l p news <;> simp_all

theorem mem_placeLane_of_ne {l p k q : Nat} {news m : LaneNews} (hq : q ≠ p) {u : List Notice}
    (h : .lane k q m ∈ u) : .lane k q m ∈ placeLane u l p news := by
  fun_induction placeLane u l p news with
  | case1 => cases h
  | case2 j r rest =>
    rcases List.mem_cons.1 h with h | h
    · cases h
      exact absurd rfl hq
    · exact List.mem_cons_of_mem _ h
  | case3 j r n rest hr ih => exact List.mem_cons.2 ((List.mem_cons.1 h).imp_right ih)
  | case4 n rest hn ih => exact List.mem_cons.2 ((List.mem_cons.1 h).imp_right ih)

/-- A LANE notice that waits stays while the units take in a loss. -/
theorem State.laneNotice_units {s : State} {k q : Nat} {m : LaneNews} (o : LossOrder) (l : Nat)
    (h : .lane k q m ∈ s.sender.urgent) : .lane k q m ∈ (if o.capturesFirst then (s.abortOnLane o l).loseProgrammes l
      else (s.loseProgrammes l).abortOnLane o l).sender.urgent := by
  have habort : ∀ u : State, (u.abortOnLane o l).sender.urgent = u.sender.urgent := fun u => by
    rw [State.abortOnLane_eq]
    exact ReportSender.foldl_note_urgent _ _
  have hlose : ∀ u : State, .lane k q m ∈ u.sender.urgent → .lane k q m ∈ (u.loseProgrammes l).sender.urgent := fun u =>
    (keptByPool_laneNotice k q m).endProgrammes (fun _ _ _ h => h) u .laneLost
  split
  · exact hlose _ (by rwa [habort])
  · rw [habort]
    exact hlose s h

/-- The LANE notice of a loss waits behind it (R15). -/
theorem State.laneNotice_passOnLoss (s : State) (o : LossOrder) (l p : Nat) (news : LaneNews) :
    .lane l p news ∈ (s.passOnLoss o l p news).sender.urgent := by
  unfold State.passOnLoss
  cases o.noticeFirst
  · exact mem_placeLane_self ..
  · exact State.laneNotice_units o l (mem_placeLane_self ..)

theorem State.laneNotice_stays {s : State} {k q : Nat} {m : LaneNews} (o : LossOrder) (l : Nat) {p : Nat} (hq : q ≠ p)
    (news : LaneNews) (h : .lane k q m ∈ s.sender.urgent) :
    .lane k q m ∈ (s.passOnLoss o l p news).sender.urgent := by
  unfold State.passOnLoss
  cases o.noticeFirst
  · exact mem_placeLane_of_ne hq (State.laneNotice_units o l h)
  · exact State.laneNotice_units o l (mem_placeLane_of_ne hq h)

/-! ### LANE_LOSS and MISMATCH_LANE_LOSS -/

/-- A change of control lane discards the partial message and the clock's timing, and nothing else (R11, R147). -/
theorem State.controlChanged_fields (s b : State) : ∃ taken due parser, s.controlChanged b = { s with
    rx := { s.rx with clockTaken := taken, clockDue := due }, orders := { s.orders with parser } } ∧
    (s.controlHolder ≠ b.controlHolder → taken = false ∧ due = false ∧ parser = .hunt) ∧
    (s.controlHolder = b.controlHolder → taken = s.rx.clockTaken ∧ due = s.rx.clockDue ∧ parser = s.orders.parser) := by
  unfold State.controlChanged
  split
  · next h => exact ⟨_, _, _, rfl, fun hne => absurd h hne, fun _ => ⟨rfl, rfl, rfl⟩⟩
  · next h => exact ⟨_, _, _, rfl, fun _ => ⟨rfl, rfl, rfl⟩, fun heq => absurd heq h⟩

/-- The control lane stays where it and every lane below it keep their places. -/
theorem State.controlHolder_eq {s t : State} {k : Nat} (hc : s.control = some k) (h : ∀ j ≤ k, t.map j = s.map j) :
    t.controlHolder = s.controlHolder := by
  obtain ⟨h4, hmap, hlow⟩ := State.control_eq_some_iff.1 hc
  have ht : t.control = some k := State.control_eq_some_iff.2
    ⟨h4, by rwa [h k le_rfl], fun j hj => by rw [h j hj.le]; exact hlow j hj⟩
  rw [State.controlHolder, State.controlHolder, ht, hc, Option.map_some, h k le_rfl, Option.map_some]

theorem State.controlHolder_ne {s t : State} {k : Nat} (hc : s.control = some k) (h : t.map k ≠ s.map k) :
    t.controlHolder ≠ s.controlHolder := by
  unfold State.controlHolder
  rw [hc]
  cases ht : t.control with
  | none => simp
  | some j =>
    simp only [Option.map_some, ne_eq, Option.some.injEq, Prod.mk.injEq, not_and]
    rintro rfl
    exact h

theorem Lane.holds_toHunt (x : Lane) (k : Nat) : x.toHunt.holds k = false := rfl

theorem Lane.holds_dropSpare (l k : Nat) (x : Lane) : (x.dropSpare l).holds k = x.holds k := by
  unfold Lane.dropSpare
  split
  · next h => rw [Lane.holds_toHunt, Lane.holds_of_not_aligned (fun e => by rw [h.1] at e; cases e)]
  · rfl

section
variable {s : State} {p l : Nat} {x : Lane} (hx : s.lane p = some x)
include hx

/-- The receiver's lanes after the loss of the lane `p` that held `l` (R6, R8). -/
theorem State.map_lost_ne (hid : x.identity = some l) {k : Nat} (hk : k ≠ l) :
    laneMap ((s.rx.lanes.set p x.toHunt).map (Lane.dropSpare l)) k = s.map k := by
  have hlt := (List.getElem?_eq_some_iff.1 (show s.rx.lanes[p]? = some x from hx)).1
  refine laneMap_congr fun q _ => ?_
  rw [List.getElem?_map]
  by_cases hq : p = q
  · subst hq
    rw [List.getElem?_set_self hlt, show s.rx.lanes[p]? = some x from hx, Option.map_some, Option.any_some, Option.any_some,
      Lane.holds_dropSpare, Lane.holds_toHunt]
    simp [Lane.holds, hid, Ne.symm hk]
  · rw [List.getElem?_set_ne hq]
    cases s.rx.lanes[q]? with
    | none => rfl
    | some y => exact Lane.holds_dropSpare l k y

theorem State.map_lost_self :
    laneMap ((s.rx.lanes.set p x.toHunt).map (Lane.dropSpare l)) l ≠ some p := fun h => by
  have hlt := (List.getElem?_eq_some_iff.1 (show s.rx.lanes[p]? = some x from hx)).1
  obtain ⟨-, y, hy, hholds⟩ := laneMap_eq_some h
  rw [List.getElem?_map, List.getElem?_set_self hlt, Option.map_some, Option.some.injEq] at hy
  rw [← hy, Lane.holds_dropSpare, Lane.holds_toHunt] at hholds
  cases hholds

/-- Where another lane was control it stays control, or there stays none (R11). -/
theorem State.controlHolder_lost (hid : x.identity = some l) (hmap : s.map l = some p) (hc : s.control ≠ some l) :
    (s.setLanes ((s.rx.lanes.set p x.toHunt).map (Lane.dropSpare l))).controlHolder = s.controlHolder := by
  have hmaps := fun k (hk : k ≠ l) => State.map_lost_ne hx hid hk
  cases hcontrol : s.control with
  | none =>
    have hfree := State.control_eq_none_iff.1 hcontrol
    have hl : ¬ l < 4 := fun h4 => by
      rw [hfree l h4] at hmap
      cases hmap
    have hnone : (s.setLanes ((s.rx.lanes.set p x.toHunt).map (Lane.dropSpare l))).control = none :=
      State.control_eq_none_iff.2 fun k hk => (hmaps k (by omega)).trans (hfree k hk)
    rw [State.controlHolder, State.controlHolder, hcontrol, hnone]
    rfl
  | some k =>
    have hkl : k < l := by
      obtain ⟨-, -, hlow⟩ := State.control_eq_some_iff.1 hcontrol
      rcases Nat.lt_trichotomy k l with hlt | rfl | hgt
      · exact hlt
      · exact absurd hcontrol hc
      · rw [hlow l hgt] at hmap
        cases hmap
    exact State.controlHolder_eq hcontrol fun j hj => hmaps j (by omega)

theorem State.endLane_of_spare (ha : x.align = .spare) (o : LossOrder) :
    s.endLane o p = s.setLanes (s.rx.lanes.set p x.toHunt) := by
  unfold State.endLane
  rw [hx]
  simp only [ha]
  exact State.modifyLane_eq hx _

theorem State.endLane_of_aligned (ha : x.align = .aligned) (hid : x.identity = some l) (o : LossOrder) :
    s.endLane o p = ((s.setLanes ((s.rx.lanes.set p x.toHunt).map (Lane.dropSpare l))).controlChanged s).passOnLoss
      o l p .lost := by
  unfold State.endLane
  rw [hx]
  simp only [ha, hid]
  rw [show s.rx.lanes.modify p Lane.toHunt = s.rx.lanes.set p x.toHunt from
    congrArg (fun u : State => u.rx.lanes) (State.modifyLane_eq hx Lane.toHunt)]

end

/-- Settles O51: the lane hunts; the control lane changes where it was the one lost; the loss is passed on. -/
theorem laneLossPassesOn : Obligations.LaneLossPassesOn := by
  intro s p l o x i hp hx hid hi
  have hexec : x.align = .spare ∨ x.align = .aligned → exec i s = .next (s.endLane o p) := fun ha => by
    rcases hi with ⟨rfl, h4⟩ | ⟨rfl, h4⟩
    · have hdue : s.lossDue p = true := by rcases ha with ha | ha <;> simp [State.lossDue, hx, ha, h4]
      rw [exec_laneLoss, State.dueLoss, hdue]
      rfl
    · have hdue : s.mismatchDue p = true := by rcases ha with ha | ha <;> simp [State.mismatchDue, hx, ha, h4]
      rw [exec_mismatchLaneLoss, State.dueMismatch, hdue]
      rfl
  refine ⟨fun ha => ?_, fun ha hmap => ?_⟩
  · rw [hexec (.inl ha), State.endLane_of_spare hx ha]
    rfl
  · obtain ⟨taken, due, parser, hu, hne, heq⟩ :=
      (s.setLanes ((s.rx.lanes.set p x.toHunt).map (Lane.dropSpare l))).controlChanged_fields s
    rw [hexec (.inr ha), State.endLane_of_aligned hx ha hid, hu]
    have hchanged := fun hc => hne (State.controlHolder_ne hc fun e => State.map_lost_self hx (e.trans hmap))
    have hkept := fun hc => heq (State.controlHolder_lost hx hid hmap hc)
    generalize (s.setLanes ((s.rx.lanes.set p x.toHunt).map (Lane.dropSpare l))).controlChanged s = u at hu
    have hlost := u.lost_passOnLoss o l p .lost
    have hmail : l < 4 → (u.passOnLoss o l p .lost).mail = (s.queueAll (s.lossNotices o l)).mail := fun h4 => by
      rw [u.mail_passOnLoss o h4, show u.lossNotices o l = s.lossNotices o l by rw [hu]; rfl]
      exact State.mail_queueAll_congr (by rw [hu]; rfl) _
    have hnotice := u.laneNotice_passOnLoss o l p .lost
    obtain ⟨hrx, horders, hframe⟩ := hlost.frame
    subst hu
    refine ⟨_, rfl, ?_, ?_, ?_, ?_, ?_, fun k hk hl => hlost.ended k hk (List.mem_singleton.2 hl), fun k hl => ?_,
      fun c hc y hy => ?_, hnotice, fun h4 => ?_, fun hc => ?_, fun hc => ?_, fun hc => ?_, fun hc => ?_, hframe⟩
    · rw [hrx]; rfl
    · rw [hrx]; rfl
    · rw [hrx]; rfl
    · rw [hrx]; rfl
    · rw [hrx]; rfl
    · exact hlost.stays k (by simpa using hl)
    · refine (hlost.captures c hc).trans ?_
      show (s.capture c).filter _ = _
      rw [hy]
      by_cases hl : y.slot / 32 = l <;> simp [Option.filter, hl]
    · exact Prod.mk.inj (hmail h4)
    · obtain ⟨ht, hd, -⟩ := hchanged hc
      rw [hrx]
      exact ⟨ht, hd⟩
    · obtain ⟨ht, hd, -⟩ := hkept hc
      rw [hrx]
      exact ⟨ht, hd⟩
    · obtain ⟨-, -, hp⟩ := hchanged hc
      rw [horders]
      exact hp
    · obtain ⟨-, -, hp⟩ := hkept hc
      rw [horders]
      exact hp

end Sys2Proof.Machine

/-! PROOF. The LANE PLAN: its checks, a raised width, and a lowered one with the losses it passes on lane after lane (R9 to R11). -/

namespace Sys2Proof.Machine

/-! ### Several losses in turn -/

/-- The logical lanes `ls` are lost in turn, each held by the physical lane `place` names (R10). -/
def State.loseLanes (s : State) (o : LossOrder) (place : Nat → Nat) (ls : List Nat) : State :=
  ls.foldl (fun t l => t.passOnLoss o l (place l) .spare) s

theorem State.loseLanes_cons (s : State) (o : LossOrder) (place : Nat → Nat) (l : Nat) (ls : List Nat) :
    s.loseLanes o place (l :: ls) = (s.passOnLoss o l (place l) .spare).loseLanes o place ls := rfl

theorem State.lost_loseLanes (o : LossOrder) (place : Nat → Nat) (ls : List Nat) (s : State) :
    State.Lost ls ls s (s.loseLanes o place ls) := by
  induction ls generalizing s with
  | nil => exact State.lost_of_eq rfl rfl rfl rfl
  | cons l ls ih => exact (s.lost_passOnLoss o l (place l) .spare).trans (ih _)

/-- A LANE notice of a lane not among those lost stays. -/
theorem State.laneNotice_loseLanes_stays (o : LossOrder) {place : Nat → Nat} {k q : Nat} {m : LaneNews} {ls : List Nat}
    {s : State} (hq : q ∉ ls.map place) (h : .lane k q m ∈ s.sender.urgent) :
    .lane k q m ∈ (s.loseLanes o place ls).sender.urgent := by
  induction ls generalizing s with
  | nil => exact h
  | cons l ls ih =>
    rw [List.map_cons, List.mem_cons, not_or] at hq
    rw [State.loseLanes_cons]
    exact ih hq.2 (State.laneNotice_stays o l hq.1 .spare h)

theorem State.laneNotice_loseLanes (o : LossOrder) {place : Nat → Nat} {l : Nat} {ls : List Nat} {s : State}
    (hn : (ls.map place).Nodup) (hl : l ∈ ls) : .lane l (place l) .spare ∈ (s.loseLanes o place ls).sender.urgent := by
  induction ls generalizing s with
  | nil => cases hl
  | cons j ls ih =>
    rw [List.map_cons, List.nodup_cons] at hn
    rw [State.loseLanes_cons]
    rcases List.mem_cons.1 hl with rfl | hl
    · exact State.laneNotice_loseLanes_stays o hn.1 (s.laneNotice_passOnLoss o l (place l) .spare)
    · exact ih hn.2 hl

/-! ### Their notices -/

/-- The ordinary queue with `g` read off each notice, and the drop count. -/
def State.mailBy {α : Type} (g : Notice → α) (s : State) : List α × Nat := (s.sender.ordinary.map g, s.sender.drops)

theorem State.mailBy_of_mail {α : Type} {s t : State} (g : Notice → α) (h : t.mail = s.mail) : t.mailBy g = s.mailBy g := by
  obtain ⟨ho, hd⟩ := Prod.mk.inj h
  rw [State.mailBy, State.mailBy, ho, hd]

theorem State.mailBy_queueAll_congr {α : Type} {g : Notice → α} {ms ns : List Notice} {s t : State}
    (h : t.mailBy g = s.mailBy g) (hn : ms.map g = ns.map g) : (t.queueAll ms).mailBy g = (s.queueAll ns).mailBy g := by
  induction ms generalizing ns s t with
  | nil =>
    cases List.map_eq_nil_iff.1 hn.symm
    exact h
  | cons m ms ih =>
    obtain ⟨n, ns, rfl, hg, hns⟩ := List.map_eq_cons_iff.1 hn.symm
    obtain ⟨ho, hd⟩ := Prod.mk.inj h
    have hlen : t.sender.ordinary.length = s.sender.ordinary.length := by
      simpa using congrArg List.length ho
    refine ih (s := s.queueOrdinary n) (t := t.queueOrdinary m) ?_ hns.symm
    rw [State.mailBy, State.mailBy, State.queueOrdinary_sender, State.queueOrdinary_sender, ReportSender.note,
      ReportSender.note, hlen]
    split
    · simp only [List.map_append, List.map_cons, List.map_nil, ho, hd, hg]
    · simp only [ho, hd]

/-- Notices a loss leaves as they are, read by `g`, are those of the state before all losses. -/
theorem State.mailBy_loseLanes {α : Type} {g : Notice → α} (o : LossOrder) (place : Nat → Nat) {ls : List Nat} {s : State}
    (hn : ls.Nodup) (h4 : ∀ l ∈ ls, l < 4)
    (hg : ∀ ps u, State.Lost ps ps s u → ∀ l ∈ ls, l ∉ ps → (u.lossNotices o l).map g = (s.lossNotices o l).map g) :
    (s.loseLanes o place ls).mailBy g = (s.queueAll (ls.flatMap (s.lossNotices o))).mailBy g := by
  induction ls generalizing s with
  | nil => rfl
  | cons l ls ih =>
    obtain ⟨hl, hls⟩ := List.nodup_cons.1 hn
    have hlost := s.lost_passOnLoss o l (place l) .spare
    have hfirst := s.mail_passOnLoss o (h4 l List.mem_cons_self) (place l) .spare
    rw [State.loseLanes_cons, List.flatMap_cons, State.queueAll_append]
    generalize s.passOnLoss o l (place l) .spare = u at hlost hfirst
    have hsame : ∀ j ∈ ls, (u.lossNotices o j).map g = (s.lossNotices o j).map g := fun j hj =>
      hg [l] u hlost j (List.mem_cons_of_mem l hj) fun e => hl (List.mem_singleton.1 e ▸ hj)
    rw [ih hls (fun j hj => h4 j (List.mem_cons_of_mem l hj)) fun ps v hv j hj hps => ?_]
    · refine State.mailBy_queueAll_congr (State.mailBy_of_mail g hfirst) ?_
      rw [List.map_flatMap, List.map_flatMap]
      exact List.flatMap_congr hsame
    · rw [hsame j hj]
      refine hg (l :: ps) v (hlost.trans hv) j (List.mem_cons_of_mem l hj) fun hm => ?_
      rcases List.mem_cons.1 hm with rfl | hm
      · exact hl hj
      · exact hps hm

theorem State.Lost.laneAborts {ps cs : List Nat} {s t : State} (h : State.Lost ps cs s t) (o : LossOrder) {l : Nat}
    (hl : l ∉ cs) : t.laneAborts o l = s.laneAborts o l := by
  unfold State.laneAborts
  refine List.flatMap_congr fun c hc => ?_
  have hc2 : c < 2 := by
    split at hc <;> simp only [List.mem_cons, List.not_mem_nil, or_false] at hc <;> omega
  rw [h.captures c hc2]
  cases s.capture c with
  | none => rfl
  | some x =>
    by_cases hx : x.slot / 32 ∈ cs
    · have hxl : x.slot / 32 ≠ l := fun e => hl (e ▸ hx)
      simp [Option.filter, hx, hxl]
    · simp [Option.filter, hx]

/-- A loss leaves the END notices of another lane, but for the skipped counts a grant may raise (R84, R123). -/
theorem State.Lost.laneEnds_unskipped {ps cs : List Nat} {s t : State} (h : State.Lost ps cs s t) {l : Nat} (hl : l ∉ ps) :
    (t.laneEnds l).map Notice.unskipped = (s.laneEnds l).map Notice.unskipped := by
  unfold State.laneEnds
  rw [List.map_flatMap, List.map_flatMap]
  refine List.flatMap_congr fun n hn => ?_
  have hk : (32 * l + n) / 32 = l := by
    have := List.mem_range.1 hn
    omega
  have hlive := h.stays (32 * l + n) (by rwa [hk])
  cases ht : t.ctx (32 * l + n) with
  | none =>
    rw [ht, Option.isSome_none, eq_comm, Option.isSome_eq_false_iff, Option.isNone_iff_eq_none] at hlive
    rw [hlive]
  | some y =>
    obtain ⟨x, hx, hxy⟩ := h.descends _ y ht
    rw [hx]
    dsimp only
    rw [hxy.tag]
    cases x.tag <;> rfl

theorem State.Lost.laneEnds_still {ps cs : List Nat} {s t : State} (h : State.Lost ps cs s t) (hq : s.pool.queue = [])
    {l : Nat} (hl : l ∉ ps) : t.laneEnds l = s.laneEnds l := by
  unfold State.laneEnds
  refine List.flatMap_congr fun n hn => ?_
  have hk : (32 * l + n) / 32 = l := by
    have := List.mem_range.1 hn
    omega
  rw [(h.still hq).2 (32 * l + n) (by rwa [hk])]

theorem State.Lost.lossNotices_unskipped {ps : List Nat} {s t : State} (h : State.Lost ps ps s t) (o : LossOrder) {l : Nat}
    (hl : l ∉ ps) : (t.lossNotices o l).map Notice.unskipped = (s.lossNotices o l).map Notice.unskipped := by
  unfold State.lossNotices
  rw [h.laneAborts o hl]
  split <;> rw [List.map_append, List.map_append, h.laneEnds_unskipped hl]

theorem State.Lost.lossNotices_still {ps : List Nat} {s t : State} (h : State.Lost ps ps s t) (hq : s.pool.queue = [])
    (o : LossOrder) {l : Nat} (hl : l ∉ ps) : t.lossNotices o l = s.lossNotices o l := by
  unfold State.lossNotices
  rw [h.laneAborts o hl, h.laneEnds_still hq hl]

/-! ### The lanes under a lowered width -/

theorem Lane.holds_lowered (w k : Nat) (x : Lane) : (x.lowered w).holds k = (x.holds k && decide (k < w)) := by
  unfold Lane.lowered
  split
  · next h =>
    obtain ⟨ha, hid⟩ := h
    rw [Lane.holds_of_not_aligned (by simp [Lane.toSpare])]
    cases hi : x.identity with
    | none => simp [Lane.holds, hi]
    | some l =>
      have hl : w ≤ l := by simpa [hi] using hid
      by_cases hk : l = k
      · subst hk; simp [hl]
      · simp [Lane.holds, hi, hk]
  · next h =>
    by_cases hx : x.holds k = true
    · obtain ⟨ha, hid⟩ := Lane.aligned_of_holds hx
      have hk : k < w := by
        by_contra hk
        exact h ⟨ha, by simp [hid]; omega⟩
      simp [hk]
    · simp [eq_false_of_ne_true hx]

theorem laneMap_lowered (lanes : List Lane) (w k : Nat) :
    laneMap (lanes.map (Lane.lowered w)) k = if k < w then laneMap lanes k else none := by
  split
  · next hk =>
    refine laneMap_congr fun p _ => ?_
    rw [List.getElem?_map]
    cases lanes[p]? with
    | none => rfl
    | some x => exact (x.holds_lowered w k).trans (by simp [hk])
  · next hk =>
    refine laneMap_eq_none_iff.2 fun p _ x hx => ?_
    rw [List.getElem?_map] at hx
    obtain ⟨y, -, rfl⟩ := Option.map_eq_some_iff.1 hx
    rw [Lane.holds_lowered]
    simp [hk]

theorem nodup_eraseDups {α : Type} [BEq α] [LawfulBEq α] : ∀ l : List α, l.eraseDups.Nodup
  | [] => List.nodup_nil
  | a :: l => by
    have ih := nodup_eraseDups (l.filter fun b => !b == a)
    rw [List.eraseDups_cons]
    exact List.nodup_cons.2 ⟨fun h => by simp [List.mem_eraseDups] at h, ih⟩
termination_by l => l.length
decreasing_by exact Nat.lt_succ_of_le (List.length_filter_le _ l)

/-- The lanes lost by a width lowered to `w`, in the order in which their losses are passed on (log 13). -/
def State.lostBelow (s : State) (o : LossOrder) (w : Nat) : List Nat :=
  (o.lanes ++ List.range 4).eraseDups.filter fun l => decide (l < 4 ∧ w ≤ l) && s.mapped l

theorem State.mem_lostBelow {s : State} {o : LossOrder} {w l : Nat} :
    l ∈ s.lostBelow o w ↔ l < 4 ∧ w ≤ l ∧ s.map l ≠ none := by
  rw [State.lostBelow, List.mem_filter, List.mem_eraseDups, List.mem_append, List.mem_range, Bool.and_eq_true,
    decide_eq_true_eq, State.mapped, Option.isSome_iff_ne_none]
  tauto

theorem State.nodup_lostBelow (s : State) (o : LossOrder) (w : Nat) : (s.lostBelow o w).Nodup :=
  (nodup_eraseDups _).filter _

theorem State.lossOrdered_eq (s : State) (o : LossOrder) (w : Nat) :
    lossOrdered o ((List.range 4).filter fun l => decide (w ≤ l) && s.mapped l) = s.lostBelow o w := by
  refine List.filter_congr fun l _ => Bool.eq_iff_iff.2 ?_
  simp only [List.contains_eq_mem, decide_eq_true_eq, List.mem_filter, List.mem_range, Bool.and_eq_true]
  tauto

/-- The receiver lowered to `w`, the LANE PLAN's own part of a lowering (R10). -/
def State.lowered (s : State) (w : Nat) : State :=
  { s with rx := { s.rx with width := w, lanes := s.rx.lanes.map (Lane.lowered w) } }

theorem State.changeWidth_of_same {s : State} {w : Nat} (hw : w = s.rx.width) (o : LossOrder) : s.changeWidth o w = s := by
  rw [State.changeWidth, if_neg (Nat.not_lt.2 hw.ge), if_neg (Nat.not_lt.2 hw.le)]

theorem State.changeWidth_of_raised {s : State} {w : Nat} (hw : s.rx.width < w) (o : LossOrder) : s.changeWidth o w =
    { s with rx := { s.rx with width := w, lanes := s.rx.lanes.map Lane.raised } } := by
  rw [State.changeWidth, if_neg (Nat.not_lt.2 (Nat.le_of_lt hw)), if_pos hw]

theorem State.changeWidth_of_lowered {s : State} {w : Nat} (hw : w < s.rx.width) (o : LossOrder) : s.changeWidth o w =
    ((s.lowered w).controlChanged s).loseLanes o (fun l => (s.map l).getD 0) (s.lostBelow o w) := by
  rw [State.changeWidth, if_pos hw, ← s.lossOrdered_eq]
  rfl

/-- The map, the clock and the parser under a lowered width: the control lane changes where it was lowered (R10, R11). -/
theorem State.lowered_control (s : State) (w : Nat) : ∃ taken due parser, (s.lowered w).controlChanged s =
    { s.lowered w with
      rx := { (s.lowered w).rx with clockTaken := taken, clockDue := due }, orders := { s.orders with parser } } ∧
    (∀ k, s.control = some k → w ≤ k → taken = false ∧ due = false ∧ parser = .hunt) ∧
    (∀ k, s.control = some k → k < w → taken = s.rx.clockTaken ∧ due = s.rx.clockDue ∧ parser = s.orders.parser) := by
  obtain ⟨taken, due, parser, hu, hne, heq⟩ := (s.lowered w).controlChanged_fields s
  have hmap : ∀ k, (s.lowered w).map k = if k < w then s.map k else none := laneMap_lowered s.rx.lanes w
  refine ⟨taken, due, parser, hu, fun k hc hk => hne (State.controlHolder_ne hc ?_), fun k hc hk =>
    heq (State.controlHolder_eq hc fun j hj => ?_)⟩
  · rw [hmap, if_neg (Nat.not_lt.2 hk)]
    exact (State.control_eq_some_iff.1 hc).2.1.symm
  · rw [hmap, if_pos (by omega)]

/-- No two lanes lost were held by the same physical lane. -/
theorem State.nodup_places (s : State) (o : LossOrder) (w : Nat) :
    ((s.lostBelow o w).map fun l => (s.map l).getD 0).Nodup := by
  refine List.Nodup.map_on (fun l hl k hk h => ?_) (s.nodup_lostBelow o w)
  obtain ⟨p, hp⟩ := Option.ne_none_iff_exists'.1 (State.mem_lostBelow.1 hl).2.2
  obtain ⟨q, hq⟩ := Option.ne_none_iff_exists'.1 (State.mem_lostBelow.1 hk).2.2
  simp only [hp, hq, Option.getD_some] at h
  subst h
  exact State.map_inj hp hq

theorem field8_lt (args : List Byte) (i : Nat) : field8 args i < 256 := (args.getD i 0).isLt

/-- A restart set byte names no lane at or above the width exactly where it lies below `2 ^ w` (R9). -/
theorem namedLanes_any {w set : Nat} (hset : set < 256) :
    (namedLanes set).any (fun l => decide (w ≤ l)) = true ↔ 2 ^ w ≤ set := by
  simp only [namedLanes, List.any_eq_true, List.mem_filter, List.mem_range, decide_eq_true_eq]
  constructor
  · rintro ⟨l, ⟨-, hbit⟩, hl⟩
    exact (Nat.pow_le_pow_right (by omega) hl).trans (Nat.ge_two_pow_of_testBit hbit)
  · intro h
    obtain ⟨l, hl, hbit⟩ := Nat.exists_ge_and_testBit_of_ge_two_pow h
    refine ⟨l, ⟨?_, hbit⟩, hl⟩
    by_contra h8
    have hpow : 2 ^ 8 ≤ 2 ^ l := Nat.pow_le_pow_right (by omega) (by omega)
    have := Nat.ge_two_pow_of_testBit hbit
    omega

/-- The plan a LANE PLAN order brings, its width apart (R9, R148). -/
def State.planned (s : State) (set : Nat) : State :=
  { s with rx := { s.rx with restartSet := BitVec.ofNat 4 set, qualCount := 0 } }

theorem takeLanePlan_of_fault {s : State} {ref : Byte} {args : List Byte} {o : LossOrder} (hl : args.length = 2)
    (h : (field8 args 0 ≠ 1 ∧ field8 args 0 ≠ 2 ∧ field8 args 0 ≠ 4) ∨ field8 args 1 = 0 ∨
      2 ^ field8 args 0 ≤ field8 args 1) : takeLanePlan ref args o s = s.refuse .badParam 0x01 ref := by
  rw [takeLanePlan, if_neg (by simpa using hl)]
  dsimp only
  split
  · rfl
  · next hw =>
    split
    · rfl
    · next hzero =>
      refine if_pos ((namedLanes_any (field8_lt args 1)).2 ?_)
      rcases h with h | h | h
      · exact absurd h hw
      · exact absurd h hzero
      · exact h

theorem takeLanePlan_of_taken {s : State} {ref : Byte} {args : List Byte} {o : LossOrder} (hl : args.length = 2)
    (hw : field8 args 0 = 1 ∨ field8 args 0 = 2 ∨ field8 args 0 = 4) (hpos : 0 < field8 args 1)
    (hset : field8 args 1 < 2 ^ field8 args 0) :
    takeLanePlan ref args o s = (s.planned (field8 args 1)).changeWidth o (field8 args 0) := by
  rw [takeLanePlan, if_neg (by simpa using hl)]
  dsimp only
  rw [if_neg (by omega), if_neg (by omega),
    if_neg fun h => absurd ((namedLanes_any (field8_lt args 1)).1 h) (Nat.not_le.2 hset)]
  rfl

/-- Settles O52: the checks; the lanes raised, or lowered and then lost one after another. -/
theorem lanePlanChangesWidth : Obligations.LanePlanChangesWidth := by
  intro s ref args o h w set planned
  have hexec : exec (.lanePlan ref args o) s = .next (takeLanePlan ref args o s) := by
    rw [exec_lanePlan, State.takeMessage_of_ready h]
  rw [hexec]
  refine ⟨fun hl => ?_, fun hl hbad => by rw [takeLanePlan_of_fault hl hbad], fun hl hw hpos hset => ?_⟩
  · rw [takeLanePlan, if_pos (by simpa using hl)]
    rfl
  have htake : takeLanePlan ref args o s = (s.planned set).changeWidth o w := takeLanePlan_of_taken hl hw hpos hset
  have hplanned : planned = s.planned set := rfl
  rw [htake]
  clear_value planned w set
  subst hplanned
  refine ⟨fun hsame => ?_, fun hraised => ?_, fun hlowered => ?_⟩
  · rw [State.changeWidth_of_same (s := s.planned set) hsame]
  · rw [State.changeWidth_of_raised (s := s.planned set) hraised]
    rfl
  · obtain ⟨taken, due, parser, hu, hchanged, hkept⟩ := (s.planned set).lowered_control w
    have hchange : (s.planned set).changeWidth o w = (((s.planned set).lowered w).controlChanged (s.planned set)).loseLanes
        o (fun l => (s.map l).getD 0) (s.lostBelow o w) := State.changeWidth_of_lowered (s := s.planned set) hlowered o
    rw [hchange]
    generalize ((s.planned set).lowered w).controlChanged (s.planned set) = u at hu
    have hnotices : u.lossNotices o = s.lossNotices o := by rw [hu]; rfl
    have hlost := State.lost_loseLanes o (fun l => (s.map l).getD 0) (s.lostBelow o w) u
    have hnotice := fun l (hl : l ∈ s.lostBelow o w) => State.laneNotice_loseLanes (s := u) o (s.nodup_places o w) hl
    have hmail : ∀ g : Notice → Notice, (∀ ps v, State.Lost ps ps u v → ∀ l ∈ s.lostBelow o w, l ∉ ps →
        (v.lossNotices o l).map g = (u.lossNotices o l).map g) →
        (u.loseLanes o (fun l => (s.map l).getD 0) (s.lostBelow o w)).mailBy g =
          (s.queueAll ((s.lostBelow o w).flatMap (s.lossNotices o))).mailBy g := fun g hg => by
      rw [State.mailBy_loseLanes o _ (s.nodup_lostBelow o w) (fun l hl => (State.mem_lostBelow.1 hl).1) hg, hnotices]
      exact State.mailBy_queueAll_congr (by rw [hu]; rfl) rfl
    have hunskipped := Prod.mk.inj (hmail Notice.unskipped fun ps v hv l _ hl => hv.lossNotices_unskipped o hl)
    have hexact := fun hq : u.pool.queue = [] =>
      Prod.mk.inj (hmail id fun ps v hv l _ hl => by rw [hv.lossNotices_still hq o hl])
    obtain ⟨hrx, horders, hframe⟩ := hlost.frame
    subst hu
    refine ⟨_, rfl, ?_, ?_, ?_, ?_, ?_, fun l h4 hl p hp => ?_, fun k hk => ?_, fun k hc => ?_, fun k hc hk => ?_,
      fun k hc hk => ?_, ?_, ⟨hunskipped.1, hunskipped.2, fun hq => ?_⟩, hframe⟩
    · rw [hrx]; rfl
    · rw [hrx]; rfl
    · rw [hrx]; rfl
    · rw [hrx]; rfl
    · rw [hrx]; rfl
    · have hm : l ∈ s.lostBelow o w := State.mem_lostBelow.2 ⟨h4, hl, by rw [hp]; exact Option.some_ne_none p⟩
      have hspare := hnotice l hm
      rw [hp] at hspare
      refine ⟨?_, hspare, fun k hk => hlost.ended k (by omega) (by rwa [hk]), fun c hc y hy hslot => ?_⟩
      · rw [State.map, hrx]
        exact (laneMap_lowered s.rx.lanes w l).trans (if_neg (Nat.not_lt.2 hl))
      · refine (hlost.captures c hc).trans ?_
        show (s.capture c).filter _ = _
        rw [hy]
        simp [Option.filter, hslot, hm]
    · refine hlost.stays k fun hm => ?_
      obtain ⟨-, hge, hmapped⟩ := State.mem_lostBelow.1 hm
      rcases hk with hk | hk
      · omega
      · exact hmapped hk
    · rw [horders]
      split
      · next hk => exact (hchanged k hc hk).2.2
      · next hk => exact (hkept k hc (Nat.not_le.1 hk)).2.2
    · obtain ⟨ht, hd, -⟩ := hchanged k hc hk
      rw [hrx]
      exact ⟨ht, hd⟩
    · obtain ⟨ht, hd, -⟩ := hkept k hc hk
      rw [hrx]
      exact ⟨ht, hd⟩
    · rw [hrx]; rfl
    · have hmap := (hexact hq).1
      rw [List.map_id, List.map_id] at hmap
      exact hmap

end Sys2Proof.Machine
